-- ==== Sys2Proof/Word.lean ====
section
/-! DEFINITION. The words of the block: widths and names of spec/00_scope.md R9, R10 and 10_state.md R13. -/

namespace Sys2Proof

/-- One byte of `BUF` or of the wire (R28, R42). -/
abbrev Byte := BitVec 8

/-- The 48-bit command frame as a number, bit 47 first on the wire (R59, R61). -/
abbrev Frame := BitVec 48

/-- The 16-bit bus register handed to `Edge` (R9 `CTRL_WIDTH`, R30). -/
abbrev Ctrl := BitVec 16

end Sys2Proof
end

