-- ==== Sys2Proof/Config.lean ====
section
/-! DEFINITION. The parameters of spec/00_scope.md R9 and the free values. The three OPEN parameters and every
value the spec leaves unspecified are constants WITHOUT A BODY: no proof can see a value of one. -/

namespace Sys2Proof

/-- The four select lines of `ctrl`, bits 2 to 5 (10_state.md R30). -/
inductive SelectLine where
  | ss2 | ss3 | ss4 | ss5
  deriving DecidableEq, Repr, Inhabited

namespace Config

/-- OPEN parameter `SS_BIT`: which select line addresses the card (R9, decision D2; log 1). -/
opaque ssLine : SelectLine

/-- OPEN parameter `RESET_IDLE_FLAG`: `idleFlag` after reset (R9, R35, decision D5; log 2). -/
opaque resetIdleFlag : Bool

/-- By how many bits `ADDR_WIDTH` exceeds the least width it may have, 32 (R9, decision D14; log 3). -/
opaque addrExtra : Nat

/-- OPEN parameter `ADDR_WIDTH`, at least 32 (R9, decision D14; log 3). -/
def addrWidth : Nat := 32 + addrExtra

/-- `MOSI_BIT` (R9). -/
abbrev mosiBit : Nat := 15

/-- `BLOCK_SIZE`, bytes per block and per buffer (R9). -/
abbrev blockSize : Nat := 512

/-- `CMD16`'s only accepted argument (41_command_dispatch.md R98). -/
abbrev blockLengthArg : BitVec 32 := 512#32

/-- `CRC_POLY` (R9). -/
abbrev crcPoly : BitVec 16 := 0x1021#16

/-- `CRC_SEED` (R9). -/
abbrev crcSeed : BitVec 16 := 0x0000#16

/-- `START_TOKEN` (R9), most significant bit first on the wire. -/
abbrev startToken : Byte := 0xFE#8

/-! What the n-th reset leaves in the registers whose reset value R35 calls unspecified (log 4): free values. -/

opaque freeCmd : Nat → BitVec 6
opaque freeArg : Nat → BitVec 32
opaque freeChecksum : Nat → BitVec 7
opaque freeBlockAddress : Nat → BitVec addrWidth
opaque freeBufPos : Nat → BitVec 10
opaque freeRemaining : Nat → BitVec 10
opaque freeCrc : Nat → BitVec 16
opaque freeMiso : Nat → Bool

end Config
end Sys2Proof
end

