-- ==== Sys2Proof/Machine/Crc16.lean ====
section
/-! DEFINITION. The CRC16 engine (spec/44_crc16.md). -/

namespace Sys2Proof.Machine

/-- One of the eight rounds of the bitwise computation (R133): shift left, and exclusive-or with the polynomial when the
bit shifted out is 1. -/
def crcRound (r : BitVec 16) : BitVec 16 :=
  if r.getLsbD 15 then (r <<< 1) ^^^ Config.crcPoly else r <<< 1

/-- `k` rounds. -/
def crcRounds : Nat → BitVec 16 → BitVec 16
  | 0, r => r
  | k + 1, r => crcRounds k (crcRound r)

/-- `Crc16Bitwise(c, b)` (R133; from general knowledge, log 22). -/
def crc16Bitwise (c : BitVec 16) (b : Byte) : BitVec 16 :=
  crcRounds 8 (c ^^^ (b.setWidth 16 <<< 8))

/-- `TABLE`, the 256-entry CRC ROM: entry `i` is `Crc16Bitwise(0x0000, i)` (R134). -/
def crcTable (i : BitVec 8) : BitVec 16 := crc16Bitwise 0x0000#16 i

/-- `Crc16Step(c, b)` by the table formula (R132). -/
def crc16Step (c : BitVec 16) (b : Byte) : BitVec 16 :=
  (c <<< 8) ^^^ crcTable (((c >>> 8) ^^^ b.setWidth 16).setWidth 8)

/-- `Crc16(bytes, seed)`: the left fold of the step (R136). -/
def crc16 (bytes : List Byte) (seed : BitVec 16) : BitVec 16 := bytes.foldl crc16Step seed

end Sys2Proof.Machine
end

