-- ==== Sys2Proof/Syntax.lean ====
section
/-! DEFINITION. The instructions: one constructor per row of spec/opcode_table.json, 64 command numbers in each of the
two decode modes (spec/30_encoding.md R63, R64, R73). -/

namespace Sys2Proof

/-- The decode mode: which of the two tables a number is looked up in (R63). -/
inductive CmdMode where
  | cmd
  | acmd
  deriving DecidableEq, Repr

/-- The fields of a frame beside its number (R59): the argument, the checksum, which nothing examines, and the eighth
checksum bit, which is consumed and discarded. -/
structure CmdFields where
  arg : BitVec 32
  checksum : BitVec 7
  discarded : Bool
  deriving DecidableEq, Repr

/-- A command: `cmdN` is number N dispatched in CMD mode, `acmdN` number N dispatched in ACMD mode (R63). -/
inductive Instr where
  | cmd0 (f : CmdFields)
  | cmd1 (f : CmdFields)
  | cmd2 (f : CmdFields)
  | cmd3 (f : CmdFields)
  | cmd4 (f : CmdFields)
  | cmd5 (f : CmdFields)
  | cmd6 (f : CmdFields)
  | cmd7 (f : CmdFields)
  | cmd8 (f : CmdFields)
  | cmd9 (f : CmdFields)
  | cmd10 (f : CmdFields)
  | cmd11 (f : CmdFields)
  | cmd12 (f : CmdFields)
  | cmd13 (f : CmdFields)
  | cmd14 (f : CmdFields)
  | cmd15 (f : CmdFields)
  | cmd16 (f : CmdFields)
  | cmd17 (f : CmdFields)
  | cmd18 (f : CmdFields)
  | cmd19 (f : CmdFields)
  | cmd20 (f : CmdFields)
  | cmd21 (f : CmdFields)
  | cmd22 (f : CmdFields)
  | cmd23 (f : CmdFields)
  | cmd24 (f : CmdFields)
  | cmd25 (f : CmdFields)
  | cmd26 (f : CmdFields)
  | cmd27 (f : CmdFields)
  | cmd28 (f : CmdFields)
  | cmd29 (f : CmdFields)
  | cmd30 (f : CmdFields)
  | cmd31 (f : CmdFields)
  | cmd32 (f : CmdFields)
  | cmd33 (f : CmdFields)
  | cmd34 (f : CmdFields)
  | cmd35 (f : CmdFields)
  | cmd36 (f : CmdFields)
  | cmd37 (f : CmdFields)
  | cmd38 (f : CmdFields)
  | cmd39 (f : CmdFields)
  | cmd40 (f : CmdFields)
  | cmd41 (f : CmdFields)
  | cmd42 (f : CmdFields)
  | cmd43 (f : CmdFields)
  | cmd44 (f : CmdFields)
  | cmd45 (f : CmdFields)
  | cmd46 (f : CmdFields)
  | cmd47 (f : CmdFields)
  | cmd48 (f : CmdFields)
  | cmd49 (f : CmdFields)
  | cmd50 (f : CmdFields)
  | cmd51 (f : CmdFields)
  | cmd52 (f : CmdFields)
  | cmd53 (f : CmdFields)
  | cmd54 (f : CmdFields)
  | cmd55 (f : CmdFields)
  | cmd56 (f : CmdFields)
  | cmd57 (f : CmdFields)
  | cmd58 (f : CmdFields)
  | cmd59 (f : CmdFields)
  | cmd60 (f : CmdFields)
  | cmd61 (f : CmdFields)
  | cmd62 (f : CmdFields)
  | cmd63 (f : CmdFields)
  | acmd0 (f : CmdFields)
  | acmd1 (f : CmdFields)
  | acmd2 (f : CmdFields)
  | acmd3 (f : CmdFields)
  | acmd4 (f : CmdFields)
  | acmd5 (f : CmdFields)
  | acmd6 (f : CmdFields)
  | acmd7 (f : CmdFields)
  | acmd8 (f : CmdFields)
  | acmd9 (f : CmdFields)
  | acmd10 (f : CmdFields)
  | acmd11 (f : CmdFields)
  | acmd12 (f : CmdFields)
  | acmd13 (f : CmdFields)
  | acmd14 (f : CmdFields)
  | acmd15 (f : CmdFields)
  | acmd16 (f : CmdFields)
  | acmd17 (f : CmdFields)
  | acmd18 (f : CmdFields)
  | acmd19 (f : CmdFields)
  | acmd20 (f : CmdFields)
  | acmd21 (f : CmdFields)
  | acmd22 (f : CmdFields)
  | acmd23 (f : CmdFields)
  | acmd24 (f : CmdFields)
  | acmd25 (f : CmdFields)
  | acmd26 (f : CmdFields)
  | acmd27 (f : CmdFields)
  | acmd28 (f : CmdFields)
  | acmd29 (f : CmdFields)
  | acmd30 (f : CmdFields)
  | acmd31 (f : CmdFields)
  | acmd32 (f : CmdFields)
  | acmd33 (f : CmdFields)
  | acmd34 (f : CmdFields)
  | acmd35 (f : CmdFields)
  | acmd36 (f : CmdFields)
  | acmd37 (f : CmdFields)
  | acmd38 (f : CmdFields)
  | acmd39 (f : CmdFields)
  | acmd40 (f : CmdFields)
  | acmd41 (f : CmdFields)
  | acmd42 (f : CmdFields)
  | acmd43 (f : CmdFields)
  | acmd44 (f : CmdFields)
  | acmd45 (f : CmdFields)
  | acmd46 (f : CmdFields)
  | acmd47 (f : CmdFields)
  | acmd48 (f : CmdFields)
  | acmd49 (f : CmdFields)
  | acmd50 (f : CmdFields)
  | acmd51 (f : CmdFields)
  | acmd52 (f : CmdFields)
  | acmd53 (f : CmdFields)
  | acmd54 (f : CmdFields)
  | acmd55 (f : CmdFields)
  | acmd56 (f : CmdFields)
  | acmd57 (f : CmdFields)
  | acmd58 (f : CmdFields)
  | acmd59 (f : CmdFields)
  | acmd60 (f : CmdFields)
  | acmd61 (f : CmdFields)
  | acmd62 (f : CmdFields)
  | acmd63 (f : CmdFields)
  deriving DecidableEq, Repr

/-- The decode mode a command belongs to (R63). -/
def Instr.mode : Instr → CmdMode
  | .cmd0 _ | .cmd1 _ | .cmd2 _ | .cmd3 _ | .cmd4 _ | .cmd5 _ | .cmd6 _ | .cmd7 _
  | .cmd8 _ | .cmd9 _ | .cmd10 _ | .cmd11 _ | .cmd12 _ | .cmd13 _ | .cmd14 _ | .cmd15 _
  | .cmd16 _ | .cmd17 _ | .cmd18 _ | .cmd19 _ | .cmd20 _ | .cmd21 _ | .cmd22 _ | .cmd23 _
  | .cmd24 _ | .cmd25 _ | .cmd26 _ | .cmd27 _ | .cmd28 _ | .cmd29 _ | .cmd30 _ | .cmd31 _
  | .cmd32 _ | .cmd33 _ | .cmd34 _ | .cmd35 _ | .cmd36 _ | .cmd37 _ | .cmd38 _ | .cmd39 _
  | .cmd40 _ | .cmd41 _ | .cmd42 _ | .cmd43 _ | .cmd44 _ | .cmd45 _ | .cmd46 _ | .cmd47 _
  | .cmd48 _ | .cmd49 _ | .cmd50 _ | .cmd51 _ | .cmd52 _ | .cmd53 _ | .cmd54 _ | .cmd55 _
  | .cmd56 _ | .cmd57 _ | .cmd58 _ | .cmd59 _ | .cmd60 _ | .cmd61 _ | .cmd62 _ | .cmd63 _ => .cmd
  | .acmd0 _ | .acmd1 _ | .acmd2 _ | .acmd3 _ | .acmd4 _ | .acmd5 _ | .acmd6 _ | .acmd7 _
  | .acmd8 _ | .acmd9 _ | .acmd10 _ | .acmd11 _ | .acmd12 _ | .acmd13 _ | .acmd14 _ | .acmd15 _
  | .acmd16 _ | .acmd17 _ | .acmd18 _ | .acmd19 _ | .acmd20 _ | .acmd21 _ | .acmd22 _ | .acmd23 _
  | .acmd24 _ | .acmd25 _ | .acmd26 _ | .acmd27 _ | .acmd28 _ | .acmd29 _ | .acmd30 _ | .acmd31 _
  | .acmd32 _ | .acmd33 _ | .acmd34 _ | .acmd35 _ | .acmd36 _ | .acmd37 _ | .acmd38 _ | .acmd39 _
  | .acmd40 _ | .acmd41 _ | .acmd42 _ | .acmd43 _ | .acmd44 _ | .acmd45 _ | .acmd46 _ | .acmd47 _
  | .acmd48 _ | .acmd49 _ | .acmd50 _ | .acmd51 _ | .acmd52 _ | .acmd53 _ | .acmd54 _ | .acmd55 _
  | .acmd56 _ | .acmd57 _ | .acmd58 _ | .acmd59 _ | .acmd60 _ | .acmd61 _ | .acmd62 _ | .acmd63 _ => .acmd

/-- The fields of a command beside its number (R59). -/
def Instr.fields : Instr → CmdFields
  | .cmd0 f | .cmd1 f | .cmd2 f | .cmd3 f | .cmd4 f | .cmd5 f | .cmd6 f | .cmd7 f
  | .cmd8 f | .cmd9 f | .cmd10 f | .cmd11 f | .cmd12 f | .cmd13 f | .cmd14 f | .cmd15 f
  | .cmd16 f | .cmd17 f | .cmd18 f | .cmd19 f | .cmd20 f | .cmd21 f | .cmd22 f | .cmd23 f
  | .cmd24 f | .cmd25 f | .cmd26 f | .cmd27 f | .cmd28 f | .cmd29 f | .cmd30 f | .cmd31 f
  | .cmd32 f | .cmd33 f | .cmd34 f | .cmd35 f | .cmd36 f | .cmd37 f | .cmd38 f | .cmd39 f
  | .cmd40 f | .cmd41 f | .cmd42 f | .cmd43 f | .cmd44 f | .cmd45 f | .cmd46 f | .cmd47 f
  | .cmd48 f | .cmd49 f | .cmd50 f | .cmd51 f | .cmd52 f | .cmd53 f | .cmd54 f | .cmd55 f
  | .cmd56 f | .cmd57 f | .cmd58 f | .cmd59 f | .cmd60 f | .cmd61 f | .cmd62 f | .cmd63 f
  | .acmd0 f | .acmd1 f | .acmd2 f | .acmd3 f | .acmd4 f | .acmd5 f | .acmd6 f | .acmd7 f
  | .acmd8 f | .acmd9 f | .acmd10 f | .acmd11 f | .acmd12 f | .acmd13 f | .acmd14 f | .acmd15 f
  | .acmd16 f | .acmd17 f | .acmd18 f | .acmd19 f | .acmd20 f | .acmd21 f | .acmd22 f | .acmd23 f
  | .acmd24 f | .acmd25 f | .acmd26 f | .acmd27 f | .acmd28 f | .acmd29 f | .acmd30 f | .acmd31 f
  | .acmd32 f | .acmd33 f | .acmd34 f | .acmd35 f | .acmd36 f | .acmd37 f | .acmd38 f | .acmd39 f
  | .acmd40 f | .acmd41 f | .acmd42 f | .acmd43 f | .acmd44 f | .acmd45 f | .acmd46 f | .acmd47 f
  | .acmd48 f | .acmd49 f | .acmd50 f | .acmd51 f | .acmd52 f | .acmd53 f | .acmd54 f | .acmd55 f
  | .acmd56 f | .acmd57 f | .acmd58 f | .acmd59 f | .acmd60 f | .acmd61 f | .acmd62 f | .acmd63 f => f

end Sys2Proof
end

