-- ==== Sys2Proof/WellFormed.lean ====
section
/-! DEFINITION. The checks: on a frame (spec/30_encoding.md R59), on a command in a decode mode (R63, R73) and on a
buffer (spec/43_block_transfer.md R125, R126). Every value of an argument, a checksum and the discarded bit is allowed
(R59 "any"), so there is no check on the fields. -/

namespace Sys2Proof

/-- Frame bit 47, the start bit, is 0 (R59). -/
def Frame.startBitOk (w : Frame) : Bool := !w.getLsbD 47

/-- Frame bit 46, the second framing bit, is 1 (R59). -/
def Frame.secondBitOk (w : Frame) : Bool := w.getLsbD 46

/-- A 48-bit number is a command frame (R59). -/
def Frame.wellFormed (w : Frame) : Bool := w.startBitOk && w.secondBitOk

/-- A command can be dispatched in mode `m` only if it belongs to that mode's table (R63: the mode is not part of the
frame; R73: a decoder must also use the mode). -/
def Instr.wellFormedIn (m : CmdMode) (i : Instr) : Bool := decide (i.mode = m)

/-- A buffer that may be lent holds exactly 512 bytes (R125, R126). -/
def bufferWellFormed (bytes : List Byte) : Bool := decide (bytes.length = Config.blockSize)

end Sys2Proof
end

