-- ==== Sys2Proof/Decode.lean ====
section
/-! DEFINITION. The decoder, total on any bytes and rejecting by name, and the encoder
(spec/30_encoding.md R59 to R64, R73). -/

namespace Sys2Proof

/-- Why a frame is none (R59): only its two framing bits, or its length, can be wrong. -/
inductive DecodeError where
  | frameTooShort
  | startBitNotZero
  | secondBitNotOne
  deriving DecidableEq, Repr

/-- What the decoder answers. -/
inductive Decoded (α : Type) where
  | ok (a : α)
  | rejected (e : DecodeError)
  deriving DecidableEq, Repr

/-- The command number, frame bits 45..40 (R59). -/
def frameNumber (w : Frame) : BitVec 6 := w.extractLsb' 40 6

/-- The fields: bits 39..8 the argument, 7..1 the checksum, 0 the discarded bit (R59). -/
def frameFields (w : Frame) : CmdFields :=
  { arg := w.extractLsb' 8 32, checksum := w.extractLsb' 1 7, discarded := w.getLsbD 0 }

/-- The 64 numbers in CMD mode, in ascending order (R64). -/
def cmdTable : List (CmdFields → Instr) :=
  [Instr.cmd0, Instr.cmd1, Instr.cmd2, Instr.cmd3, Instr.cmd4, Instr.cmd5, Instr.cmd6, Instr.cmd7] ++
  [Instr.cmd8, Instr.cmd9, Instr.cmd10, Instr.cmd11, Instr.cmd12, Instr.cmd13, Instr.cmd14, Instr.cmd15] ++
  [Instr.cmd16, Instr.cmd17, Instr.cmd18, Instr.cmd19, Instr.cmd20, Instr.cmd21, Instr.cmd22, Instr.cmd23] ++
  [Instr.cmd24, Instr.cmd25, Instr.cmd26, Instr.cmd27, Instr.cmd28, Instr.cmd29, Instr.cmd30, Instr.cmd31] ++
  [Instr.cmd32, Instr.cmd33, Instr.cmd34, Instr.cmd35, Instr.cmd36, Instr.cmd37, Instr.cmd38, Instr.cmd39] ++
  [Instr.cmd40, Instr.cmd41, Instr.cmd42, Instr.cmd43, Instr.cmd44, Instr.cmd45, Instr.cmd46, Instr.cmd47] ++
  [Instr.cmd48, Instr.cmd49, Instr.cmd50, Instr.cmd51, Instr.cmd52, Instr.cmd53, Instr.cmd54, Instr.cmd55] ++
  [Instr.cmd56, Instr.cmd57, Instr.cmd58, Instr.cmd59, Instr.cmd60, Instr.cmd61, Instr.cmd62, Instr.cmd63]

/-- The 64 numbers in ACMD mode, in ascending order (R64). -/
def acmdTable : List (CmdFields → Instr) :=
  [Instr.acmd0, Instr.acmd1, Instr.acmd2, Instr.acmd3, Instr.acmd4, Instr.acmd5, Instr.acmd6, Instr.acmd7] ++
  [Instr.acmd8, Instr.acmd9, Instr.acmd10, Instr.acmd11, Instr.acmd12, Instr.acmd13, Instr.acmd14, Instr.acmd15] ++
  [Instr.acmd16, Instr.acmd17, Instr.acmd18, Instr.acmd19, Instr.acmd20, Instr.acmd21, Instr.acmd22, Instr.acmd23] ++
  [Instr.acmd24, Instr.acmd25, Instr.acmd26, Instr.acmd27, Instr.acmd28, Instr.acmd29, Instr.acmd30, Instr.acmd31] ++
  [Instr.acmd32, Instr.acmd33, Instr.acmd34, Instr.acmd35, Instr.acmd36, Instr.acmd37, Instr.acmd38, Instr.acmd39] ++
  [Instr.acmd40, Instr.acmd41, Instr.acmd42, Instr.acmd43, Instr.acmd44, Instr.acmd45, Instr.acmd46, Instr.acmd47] ++
  [Instr.acmd48, Instr.acmd49, Instr.acmd50, Instr.acmd51, Instr.acmd52, Instr.acmd53, Instr.acmd54, Instr.acmd55] ++
  [Instr.acmd56, Instr.acmd57, Instr.acmd58, Instr.acmd59, Instr.acmd60, Instr.acmd61, Instr.acmd62, Instr.acmd63]

theorem cmdTable_length : cmdTable.length = 64 := rfl

theorem acmdTable_length : acmdTable.length = 64 := rfl

/-- The lookup by decode mode and number (R63, R94): total, since every one of the 64 numbers has an entry. -/
def selectCommand (m : CmdMode) (n : BitVec 6) (f : CmdFields) : Instr :=
  match m with
  | .cmd => cmdTable.get (Fin.cast cmdTable_length.symm n.toFin) f
  | .acmd => acmdTable.get (Fin.cast acmdTable_length.symm n.toFin) f

/-- The decoder of one 48-bit number in mode `m` (R59, R63). -/
def decodeFrame (m : CmdMode) (w : Frame) : Decoded Instr :=
  if !w.startBitOk then .rejected .startBitNotZero
  else if !w.secondBitOk then .rejected .secondBitNotOne
  else .ok (selectCommand m (frameNumber w) (frameFields w))

/-- Six bytes as a frame, the first byte on the wire the most significant (R43, R61). -/
def frameOfBytes (b0 b1 b2 b3 b4 b5 : Byte) : Frame := b0 ++ b1 ++ b2 ++ b3 ++ b4 ++ b5

/-- The decoder on bytes: the command and the bytes after its frame (R61). -/
def decode (m : CmdMode) : List Byte → Decoded (Instr × List Byte)
  | b0 :: b1 :: b2 :: b3 :: b4 :: b5 :: rest =>
    match decodeFrame m (frameOfBytes b0 b1 b2 b3 b4 b5) with
    | .ok i => .ok (i, rest)
    | .rejected e => .rejected e
  | _ => .rejected .frameTooShort

/-- The command number of each command (R64). -/
def Instr.number : Instr → BitVec 6
  | .cmd0 _ | .acmd0 _ => 0#6
  | .cmd1 _ | .acmd1 _ => 1#6
  | .cmd2 _ | .acmd2 _ => 2#6
  | .cmd3 _ | .acmd3 _ => 3#6
  | .cmd4 _ | .acmd4 _ => 4#6
  | .cmd5 _ | .acmd5 _ => 5#6
  | .cmd6 _ | .acmd6 _ => 6#6
  | .cmd7 _ | .acmd7 _ => 7#6
  | .cmd8 _ | .acmd8 _ => 8#6
  | .cmd9 _ | .acmd9 _ => 9#6
  | .cmd10 _ | .acmd10 _ => 10#6
  | .cmd11 _ | .acmd11 _ => 11#6
  | .cmd12 _ | .acmd12 _ => 12#6
  | .cmd13 _ | .acmd13 _ => 13#6
  | .cmd14 _ | .acmd14 _ => 14#6
  | .cmd15 _ | .acmd15 _ => 15#6
  | .cmd16 _ | .acmd16 _ => 16#6
  | .cmd17 _ | .acmd17 _ => 17#6
  | .cmd18 _ | .acmd18 _ => 18#6
  | .cmd19 _ | .acmd19 _ => 19#6
  | .cmd20 _ | .acmd20 _ => 20#6
  | .cmd21 _ | .acmd21 _ => 21#6
  | .cmd22 _ | .acmd22 _ => 22#6
  | .cmd23 _ | .acmd23 _ => 23#6
  | .cmd24 _ | .acmd24 _ => 24#6
  | .cmd25 _ | .acmd25 _ => 25#6
  | .cmd26 _ | .acmd26 _ => 26#6
  | .cmd27 _ | .acmd27 _ => 27#6
  | .cmd28 _ | .acmd28 _ => 28#6
  | .cmd29 _ | .acmd29 _ => 29#6
  | .cmd30 _ | .acmd30 _ => 30#6
  | .cmd31 _ | .acmd31 _ => 31#6
  | .cmd32 _ | .acmd32 _ => 32#6
  | .cmd33 _ | .acmd33 _ => 33#6
  | .cmd34 _ | .acmd34 _ => 34#6
  | .cmd35 _ | .acmd35 _ => 35#6
  | .cmd36 _ | .acmd36 _ => 36#6
  | .cmd37 _ | .acmd37 _ => 37#6
  | .cmd38 _ | .acmd38 _ => 38#6
  | .cmd39 _ | .acmd39 _ => 39#6
  | .cmd40 _ | .acmd40 _ => 40#6
  | .cmd41 _ | .acmd41 _ => 41#6
  | .cmd42 _ | .acmd42 _ => 42#6
  | .cmd43 _ | .acmd43 _ => 43#6
  | .cmd44 _ | .acmd44 _ => 44#6
  | .cmd45 _ | .acmd45 _ => 45#6
  | .cmd46 _ | .acmd46 _ => 46#6
  | .cmd47 _ | .acmd47 _ => 47#6
  | .cmd48 _ | .acmd48 _ => 48#6
  | .cmd49 _ | .acmd49 _ => 49#6
  | .cmd50 _ | .acmd50 _ => 50#6
  | .cmd51 _ | .acmd51 _ => 51#6
  | .cmd52 _ | .acmd52 _ => 52#6
  | .cmd53 _ | .acmd53 _ => 53#6
  | .cmd54 _ | .acmd54 _ => 54#6
  | .cmd55 _ | .acmd55 _ => 55#6
  | .cmd56 _ | .acmd56 _ => 56#6
  | .cmd57 _ | .acmd57 _ => 57#6
  | .cmd58 _ | .acmd58 _ => 58#6
  | .cmd59 _ | .acmd59 _ => 59#6
  | .cmd60 _ | .acmd60 _ => 60#6
  | .cmd61 _ | .acmd61 _ => 61#6
  | .cmd62 _ | .acmd62 _ => 62#6
  | .cmd63 _ | .acmd63 _ => 63#6

/-- The encoder: `0 1`, number, argument, checksum, last bit, most significant first (R59, R60). The decode mode is no
part of the frame (R63). -/
def encode (i : Instr) : Frame :=
  0b01#2 ++ i.number ++ i.fields.arg ++ i.fields.checksum ++ BitVec.ofBool i.fields.discarded

/-- Byte `k` of a frame, `k = 0` the first on the wire (R43, R61). -/
def frameByte (w : Frame) (k : Nat) : Byte := w.extractLsb' (40 - 8 * k) 8

/-- The six bytes of a frame in wire order (R61). -/
def bytesOfFrame (w : Frame) : List Byte :=
  [frameByte w 0, frameByte w 1, frameByte w 2, frameByte w 3, frameByte w 4, frameByte w 5]

/-- The 48-bit number that the opcode table's bits `w` of a row of `nbits` bits stand for: the bits above are 0. -/
def frameOfTableWord (nbits w : Nat) : Frame := BitVec.ofNat 48 (w % 2 ^ nbits)

/-- The command the decoder reads from an opcode-table word. The table's rows of the two modes have the same words
(R63, R73), and the word does not say the mode: it is read in CMD mode, the mode after reset (R162; log 13). -/
def decodeTableWord (nbits w : Nat) : Option Instr :=
  match decode .cmd (bytesOfFrame (frameOfTableWord nbits w)) with
  | .ok (i, _) => some i
  | .rejected _ => none

end Sys2Proof
end

