-- ==== Sys2Proof/Machine/State.lean ====
section
/-! DEFINITION. The state of the block as plain data: the fifteen registers of spec/10_state.md R13, the borrowed
buffer of R28, and the model's own fields (the agents' operations to come, the last answer, the count of resets). -/

namespace Sys2Proof.Machine

/-- The twelve values of `state` (R14), in the order of the probe's numbering (R36). -/
inductive CardState where
  | idle
  | recvBit1
  | recvCmdNr
  | recvArg
  | recvChecksum
  | sendResponse
  | waitRead
  | sendIfCond
  | sendOcr
  | sendStart
  | sendData
  | sendCrc
  deriving DecidableEq, Repr

/-- Byte memory as (address, byte) pairs, addresses strictly rising. An unlisted address holds nothing: a buffer that is
not lent is the empty list (R28, R33 (a); log 9). -/
abbrev Memory := List Host.Cell

/-- The probe's read of all fifteen registers, `state` as its number (60_exceptions.md R158, R36). -/
structure Probe where
  state : BitVec 4
  bitcount : BitVec 6
  cmd : BitVec 6
  arg : BitVec 32
  checksum : BitVec 7
  appCommand : Bool
  idleFlag : Bool
  invalidCommand : Bool
  pending : Bool
  blockAddress : BitVec Config.addrWidth
  inUse : Bool
  bufPos : BitVec 10
  remaining : BitVec 10
  crc : BitVec 16
  miso : Bool
  deriving DecidableEq, Repr

/-- The answer of a call across the block's boundary (30_encoding.md R74). `Edge` and `Reset` answer nothing. -/
inductive Reply where
  /-- No call has answered yet. -/
  | none
  /-- `Poll()`: the byte address of the awaited block, if a read waits (R124). -/
  | poll (address : Option (BitVec Config.addrWidth))
  /-- `Provide(buf)`: whether the buffer was accepted (R125, R126). -/
  | provide (accepted : Bool)
  /-- `InUse()` (R127). -/
  | inUse (answer : Bool)
  /-- The probe (R158). -/
  | probe (p : Probe)
  deriving DecidableEq, Repr

/-- One operation of one agent (00_scope.md R7, 30_encoding.md R74): what a step of the model performs. -/
inductive Event where
  /-- `Edge(ctrl)`: the bus host's rising edge with the bus register `ctrl` (40_command_framer.md R81). -/
  | edge (ctrl : Ctrl)
  /-- `Poll()` (43_block_transfer.md R124). -/
  | poll
  /-- `Provide(buf)`, `buf` of any length (R125, R126). -/
  | provide (bytes : List Byte)
  /-- `InUse()` (R127). -/
  | inUse
  /-- The probe read (60_exceptions.md R158). -/
  | probe
  /-- `Reset()` (70_reset_and_hazards.md R161). -/
  | reset
  /-- Another peripheral writes the shared input flip-flop at a time when the bus register is `ctrl` (10_state.md R31;
  log 12). -/
  | otherWrite (ctrl : Ctrl) (bit : Bool)
  deriving DecidableEq, Repr

/-- Why the model stops. The block itself has no faults (60_exceptions.md R145): both are raised only in states that no
run reaches (Safety.lean, `Inv`), by an `Edge` step and by no command. -/
inductive Fault where
  /-- Raised by `sendData` when `BUF[bufPos]` does not exist: no buffer is lent, or the index is past its end (R28 "the
  block has no access to any buffer"). Safe: the model stops where the spec gives nothing to read. -/
  | noBufferByte
  /-- Raised by `sendIfCond`, `sendData` and `sendCrc` when `bitcount` is past the last bit of the field being sent (R15
  gives the range reached). Safe: the model stops where the field has no such bit. -/
  | noWireBit
  deriving DecidableEq, Repr

/-- What the model refuses. -/
inductive Refusal where
  /-- Raised by `exec` alone, for a command that has no meaning yet. Safe: nothing is claimed of it. -/
  | notModelled (mnemonic : String)
  /-- Raised by `otherWrite` when another peripheral writes the input flip-flop while the card is selected: two writers at
  once, for which there is no rule (93_implementation_defined.md U8 "refuse (no rule)"). Safe: the run is refused. -/
  | contendedInput
  deriving DecidableEq, Repr

/-- The state (R13 for the registers; INVENTORY.md lists every field with its rule and reset value). -/
structure State where
  /-- R14: with `bitcount` the program counter of the block. -/
  state : CardState
  /-- R15: bit-times already spent in the current field. -/
  bitcount : BitVec 6
  /-- R16 -/
  cmd : BitVec 6
  /-- R17 -/
  arg : BitVec 32
  /-- R18 -/
  checksum : BitVec 7
  /-- R19 -/
  appCommand : Bool
  /-- R20 -/
  idleFlag : Bool
  /-- R21 -/
  invalidCommand : Bool
  /-- R22 -/
  pending : Bool
  /-- R23 -/
  blockAddress : BitVec Config.addrWidth
  /-- R24 -/
  inUse : Bool
  /-- R25 -/
  bufPos : BitVec 10
  /-- R26 -/
  remaining : BitVec 10
  /-- R27 -/
  crc : BitVec 16
  /-- R31 -/
  miso : Bool
  /-- `BUF` while it is lent, nothing otherwise (R28, R33 (a); log 9). -/
  buf : Memory
  /-- The model's own: the operations the agents have yet to perform, oldest first (R51, R157; log 6). -/
  inputs : List Event
  /-- The model's own: the answer of the last call (log 7). -/
  reply : Reply
  /-- The model's own: how many resets have drawn free values (log 4). -/
  draws : Nat
  deriving DecidableEq, Repr

/-- The outcome of a step of this machine. -/
abbrev Result := Host.Outcome State Fault Refusal

/-- The block after its reset number `n` (R35, R161): the values the spec gives, `RESET_IDLE_FLAG`, and a free value for
every register R35 leaves unspecified (log 4). The agents' operations and the last answer are not the block's. -/
def State.afterReset (n : Nat) (inputs : List Event) (reply : Reply) : State where
  state := .idle
  bitcount := 0#6
  cmd := Config.freeCmd n
  arg := Config.freeArg n
  checksum := Config.freeChecksum n
  appCommand := false
  idleFlag := Config.resetIdleFlag
  invalidCommand := false
  pending := false
  blockAddress := Config.freeBlockAddress n
  inUse := false
  bufPos := Config.freeBufPos n
  remaining := Config.freeRemaining n
  crc := Config.freeCrc n
  miso := Config.freeMiso n
  buf := []
  inputs := inputs
  reply := reply
  draws := n + 1

/-- The machine right after reset (R35, R161, R162), with no operation of any agent to come (log 6). -/
def State.reset : State := .afterReset 0 [] .none

end Sys2Proof.Machine
end

