-- ==== Sys2Proof/Machine/Memory.lean ====
section
/-! DEFINITION. The borrowed memory `BUF` (spec/10_state.md R28, spec/20_memory.md R41, R49): lending, reading one
byte, and the canonical form. The block writes no memory (R49), so there is no store. -/

namespace Sys2Proof.Machine

/-- Addresses strictly rise and none lies below `lo`. -/
def Memory.risingFrom (lo : Nat) : Memory → Bool
  | [] => true
  | (a, _) :: m => decide (lo ≤ a) && Memory.risingFrom (a + 1) m

/-- The canonical form. An unlisted address reads as nothing, so no entry can equal what an unlisted address reads as. -/
def Memory.wf (m : Memory) : Bool := Memory.risingFrom 0 m

/-- `BUF[a]`, if there is such a byte (R49: one byte is the only width). -/
def Memory.read : Memory → Nat → Option Byte
  | [], _ => none
  | (a, b) :: m, k => if a = k then some b else Memory.read m k

/-- The cells of bytes laid out from address `a` upwards. -/
def Memory.cellsFrom (a : Nat) : List Byte → Memory
  | [] => []
  | b :: bs => (a, b) :: Memory.cellsFrom (a + 1) bs

/-- A lent buffer: its first byte at index 0 (R28 "index 0..511", R43). -/
def Memory.ofBytes (bytes : List Byte) : Memory := Memory.cellsFrom 0 bytes

/-- The bytes of a memory in ascending index order (R43). -/
def Memory.bytes (m : Memory) : List Byte := m.map Prod.snd

/-- A whole buffer: indices 0 to 511, each once and in order (R28 "exactly 512 bytes, index 0..511"). -/
def Memory.isBlock (m : Memory) : Bool := decide (m.map Prod.fst = List.range Config.blockSize)

end Sys2Proof.Machine
end

