-- ==== Sys2Proof/Machine/Ops.lean ====
section
/-! DEFINITION. The named operations over the registers: the bits an edge brings, driving `miso`, shifting a received
bit in, counting bit-times, entering the next field, and `raise Reject`, the block's one exception. -/

namespace Sys2Proof.Machine

/-! ### What an edge brings -/

/-- The output bit `mosi`, bit 15 of the bus register (10_state.md R30). -/
def mosi (ctrl : Ctrl) : Bool := ctrl.getLsbD Config.mosiBit

/-- The position of a select line in the bus register (R30: bits 5..2). -/
def selectBit : SelectLine → Nat
  | .ss2 => 2
  | .ss3 => 3
  | .ss4 => 4
  | .ss5 => 5

/-- The card on line `l` is addressed: its select bit is 0 (R30; R91: the other lines are ignored). -/
def selectedBy (l : SelectLine) (ctrl : Ctrl) : Bool := !ctrl.getLsbD (selectBit l)

/-- This card is addressed: `ctrl[SS_BIT] = 0` (R81), `SS_BIT` being OPEN. With all four lines alike the answer does not
depend on `SS_BIT`, and is given without it, so that it can be computed; `cardSelected_eq` (Laws) says that this is
`selectedBy Config.ssLine` for every `ctrl`. -/
def cardSelected (ctrl : Ctrl) : Bool :=
  match ctrl.extractLsb' 2 4 with
  | 0x0#4 => true
  | 0xF#4 => false
  | _ => selectedBy Config.ssLine ctrl

/-! ### Register operations of the sequencer -/

/-- `miso <- b` (R31). -/
def drive (b : Bool) (s : State) : State := { s with miso := b }

/-- `bitcount <- bitcount + 1` (R15), in the counter's 6 bits (log 11). -/
def countBit (s : State) : State := { s with bitcount := s.bitcount + 1#6 }

/-- `bitcount <- 0; state <- st`: a field is complete (R15). -/
def enter (st : CardState) (s : State) : State := { s with bitcount := 0#6, state := st }

/-- `((v << 1) or mosi)[n-1:0]`: a received bit enters at bit 0 (R42, R60). -/
def shiftIn {n : Nat} (v : BitVec n) (b : Bool) : BitVec n := (v <<< 1) ||| (BitVec.ofBool b).setWidth n

/-- Bit `k` on the wire of a field of `n` bits, most significant first (R42): `v[n-1-k]`, if the field has it. -/
def wireBit {n : Nat} (v : BitVec n) (k : BitVec 6) : Option Bool :=
  if k.toNat < n then some (v.getMsbD k.toNat) else none

/-- Go on with the state an outcome gives, keeping a stop. -/
def andThen (r : Result) (f : State → State) : Result :=
  match r with
  | .next s => .next (f s)
  | .fault e => .fault e
  | .refused e => .refused e

/-! ### The exception -/

/-- `raise Reject`: `invalidCommand <- 1` and nothing else; no control transfer, no saved state (60_exceptions.md R141,
R149). There is no return from it (R150). -/
def raiseReject (s : State) : State := { s with invalidCommand := true }

/-- The probe's number of a state (R36). -/
def CardState.code : CardState → BitVec 4
  | .idle => 0#4
  | .recvBit1 => 1#4
  | .recvCmdNr => 2#4
  | .recvArg => 3#4
  | .recvChecksum => 4#4
  | .sendResponse => 5#4
  | .waitRead => 6#4
  | .sendIfCond => 7#4
  | .sendOcr => 8#4
  | .sendStart => 9#4
  | .sendData => 10#4
  | .sendCrc => 11#4

end Sys2Proof.Machine
end

