-- ==== Sys2Proof/Machine/Flags.lean ====
section
/-! DEFINITION. The sticky flags: what a dispatch does to them (spec/41_command_dispatch.md R93) and how the response
byte reports them (spec/30_encoding.md R66). -/

namespace Sys2Proof.Machine

/-- The first act of a dispatch: `appCommand <- 0` (R93, R19; 90_conflicts.md C2). -/
def clearAppCommand (s : State) : State := { s with appCommand := false }

/-- The last act of a dispatch whose command was handled: `invalidCommand <- 0` (R93, R21). -/
def latchHandled (s : State) : State := { s with invalidCommand := false }

/-- A dispatch that handles its command: clear the mode, run the arm, latch (R93, R148). -/
def dispatchHandled (arm : State → State) (s : State) : State := latchHandled (arm (clearAppCommand s))

/-- A dispatch that does not: clear the mode, `raise Reject` (R93, R103, R104, R149). -/
def dispatchRejected (s : State) : State := raiseReject (clearAppCommand s)

/-- What SendResponse writes to `miso` at bit-time `k` before the last one (42_response_formatter.md R107). -/
def responseBit (k : BitVec 6) (s : State) : Bool := if k = 5#6 then s.invalidCommand else false

/-- The response byte: `(invalidCommand << 2) or idleFlag` (30_encoding.md R66). -/
def responseByte (s : State) : Byte :=
  ((BitVec.ofBool s.invalidCommand).setWidth 8 <<< 2) ||| (BitVec.ofBool s.idleFlag).setWidth 8

end Sys2Proof.Machine
end

