-- ==== Sys2Proof/Machine/Operands.lean ====
section
/-! DEFINITION. The operands of the commands: the decode mode, the fields of the frame as it completes, the block
address, and the word the CMD8 tail sends. -/

namespace Sys2Proof.Machine

/-- The decode mode at dispatch: the ACMD table when `appCommand` = 1 (R19, 30_encoding.md R63). -/
def decodeMode (s : State) : CmdMode := if s.appCommand then .acmd else .cmd

/-- The fields of the frame whose last bit is `last`: argument and checksum are in their registers, the eighth checksum
bit is the one just sampled, stored nowhere (R59, 40_command_framer.md R86). -/
def frameOperands (last : Bool) (s : State) : CmdFields :=
  { arg := s.arg, checksum := s.checksum, discarded := last }

/-- The frame that completes with `last` as a 48-bit number; its framing bits were 0 and 1 (R59, R60). -/
def receivedFrame (last : Bool) (s : State) : Frame :=
  0b01#2 ++ s.cmd ++ s.arg ++ s.checksum ++ BitVec.ofBool last

/-- `(zext(arg) * 512) mod 2^w` (20_memory.md R47, 41_command_dispatch.md R106). -/
def blockAddressOf (w : Nat) (arg : BitVec 32) : BitVec w := BitVec.ofNat w (arg.toNat * Config.blockSize)

/-- CMD16's success condition: a 32-bit unsigned comparison with 512 (41_command_dispatch.md R98). -/
def blockLengthAccepted (arg : BitVec 32) : Bool := decide (arg = Config.blockLengthArg)

/-- The CMD8 tail as a 32-bit word: `zext_32(arg[7:0])` (30_encoding.md R67). -/
def echoWord (arg : BitVec 32) : BitVec 32 := (arg.setWidth 8).setWidth 32

end Sys2Proof.Machine
end

