-- ==== Sys2Proof/Machine/Formatter.lean ====
section
/-! DEFINITION. The response formatter (spec/42_response_formatter.md): SendResponse, the choice of the tail, SendIfCond
and SendOcr. None of them reads the output bit (40_command_framer.md R89). -/

namespace Sys2Proof.Machine

/-- `Tail()`: what follows the response byte (R108, decision D11). -/
def tail (s : State) : CardState :=
  if s.invalidCommand then .idle
  else if s.cmd = 8#6 then .sendIfCond
  else if s.cmd = 58#6 then .sendOcr
  else if s.cmd = 17#6 then .waitRead
  else .idle

/-- SendResponse: one bit of the response byte; the last step drives `idleFlag` (R107, 90_conflicts.md C1). -/
def sendResponseStep (s : State) : State :=
  let s := countBit (drive (responseBit s.bitcount s) s)
  if s.bitcount = 8#6 then enter (tail s) (drive s.idleFlag s) else s

/-- SendIfCond: one bit of the CMD8 tail: 24 zeros, then the argument's low byte (R109). -/
def sendIfCondStep (s : State) : Result :=
  match wireBit (echoWord s.arg) s.bitcount with
  | none => .fault .noWireBit
  | some b =>
    let s := countBit (drive b s)
    .next (if s.bitcount = 32#6 then enter .idle s else s)

/-- SendOcr: one of 32 zero bits (R110). -/
def sendOcrStep (s : State) : State :=
  let s := countBit (drive false s)
  if s.bitcount = 32#6 then enter .idle s else s

end Sys2Proof.Machine
end

