-- ==== Sys2Proof/Machine/Accepted.lean ====
section
/-! DEFINITION. The meanings of the seven accepted commands (spec/41_command_dispatch.md section 2): the whole effect of
`Dispatch()` on the registers. The step that dispatches adds `bitcount <- 0; state <- SendResponse` (R86). -/

namespace Sys2Proof.Machine

/-- CMD0: `idleFlag <- 1`, always handled (R95). -/
def execCmd0 (s : State) : Result := .next (dispatchHandled (fun t => { t with idleFlag := true }) s)

/-- CMD8: no effect of its own, always handled (R96); its tail is SendIfCond's (R109). -/
def execCmd8 (s : State) : Result := .next (dispatchHandled id s)

/-- CMD16: handled when the argument is 512, otherwise rejected (R98). -/
def execCmd16 (f : CmdFields) (s : State) : Result :=
  .next (if blockLengthAccepted f.arg then dispatchHandled id s else dispatchRejected s)

/-- CMD17: `blockAddress <- arg * 512; pending <- 1; crc <- 0`, always handled (R99). -/
def execCmd17 (f : CmdFields) (s : State) : Result :=
  .next (dispatchHandled
    (fun t => { t with blockAddress := blockAddressOf Config.addrWidth f.arg, pending := true, crc := Config.crcSeed }) s)

/-- CMD55: `appCommand <- 1` after the dispatch's clear, always handled (R100). -/
def execCmd55 (s : State) : Result := .next (dispatchHandled (fun t => { t with appCommand := true }) s)

/-- CMD58: no effect of its own, always handled (R101); its tail is SendOcr's (R110). -/
def execCmd58 (s : State) : Result := .next (dispatchHandled id s)

/-- ACMD41: `idleFlag <- 0`, always handled (R102). -/
def execAcmd41 (s : State) : Result := .next (dispatchHandled (fun t => { t with idleFlag := false }) s)

end Sys2Proof.Machine
end

