-- ==== Sys2Proof/Machine/IllegalAcmd.lean ====
section
/-! DEFINITION. The illegal commands of ACMD mode (spec/41_command_dispatch.md R104): each is rejected, whatever its fields:
`appCommand <- 0; invalidCommand <- 1`, no other register, no tail. One definition per number. -/

namespace Sys2Proof.Machine

def execAcmd0 (s : State) : Result := .next (dispatchRejected s)
def execAcmd1 (s : State) : Result := .next (dispatchRejected s)
def execAcmd2 (s : State) : Result := .next (dispatchRejected s)
def execAcmd3 (s : State) : Result := .next (dispatchRejected s)
def execAcmd4 (s : State) : Result := .next (dispatchRejected s)
def execAcmd5 (s : State) : Result := .next (dispatchRejected s)
def execAcmd6 (s : State) : Result := .next (dispatchRejected s)
def execAcmd7 (s : State) : Result := .next (dispatchRejected s)
def execAcmd8 (s : State) : Result := .next (dispatchRejected s)
def execAcmd9 (s : State) : Result := .next (dispatchRejected s)
def execAcmd10 (s : State) : Result := .next (dispatchRejected s)
def execAcmd11 (s : State) : Result := .next (dispatchRejected s)
def execAcmd12 (s : State) : Result := .next (dispatchRejected s)
def execAcmd13 (s : State) : Result := .next (dispatchRejected s)
def execAcmd14 (s : State) : Result := .next (dispatchRejected s)
def execAcmd15 (s : State) : Result := .next (dispatchRejected s)
def execAcmd16 (s : State) : Result := .next (dispatchRejected s)
def execAcmd17 (s : State) : Result := .next (dispatchRejected s)
def execAcmd18 (s : State) : Result := .next (dispatchRejected s)
def execAcmd19 (s : State) : Result := .next (dispatchRejected s)
def execAcmd20 (s : State) : Result := .next (dispatchRejected s)
def execAcmd21 (s : State) : Result := .next (dispatchRejected s)
def execAcmd22 (s : State) : Result := .next (dispatchRejected s)
def execAcmd23 (s : State) : Result := .next (dispatchRejected s)
def execAcmd24 (s : State) : Result := .next (dispatchRejected s)
def execAcmd25 (s : State) : Result := .next (dispatchRejected s)
def execAcmd26 (s : State) : Result := .next (dispatchRejected s)
def execAcmd27 (s : State) : Result := .next (dispatchRejected s)
def execAcmd28 (s : State) : Result := .next (dispatchRejected s)
def execAcmd29 (s : State) : Result := .next (dispatchRejected s)
def execAcmd30 (s : State) : Result := .next (dispatchRejected s)
def execAcmd31 (s : State) : Result := .next (dispatchRejected s)
def execAcmd32 (s : State) : Result := .next (dispatchRejected s)
def execAcmd33 (s : State) : Result := .next (dispatchRejected s)
def execAcmd34 (s : State) : Result := .next (dispatchRejected s)
def execAcmd35 (s : State) : Result := .next (dispatchRejected s)
def execAcmd36 (s : State) : Result := .next (dispatchRejected s)
def execAcmd37 (s : State) : Result := .next (dispatchRejected s)
def execAcmd38 (s : State) : Result := .next (dispatchRejected s)
def execAcmd39 (s : State) : Result := .next (dispatchRejected s)
def execAcmd40 (s : State) : Result := .next (dispatchRejected s)
def execAcmd42 (s : State) : Result := .next (dispatchRejected s)
def execAcmd43 (s : State) : Result := .next (dispatchRejected s)
def execAcmd44 (s : State) : Result := .next (dispatchRejected s)
def execAcmd45 (s : State) : Result := .next (dispatchRejected s)
def execAcmd46 (s : State) : Result := .next (dispatchRejected s)
def execAcmd47 (s : State) : Result := .next (dispatchRejected s)
def execAcmd48 (s : State) : Result := .next (dispatchRejected s)
def execAcmd49 (s : State) : Result := .next (dispatchRejected s)
def execAcmd50 (s : State) : Result := .next (dispatchRejected s)
def execAcmd51 (s : State) : Result := .next (dispatchRejected s)
def execAcmd52 (s : State) : Result := .next (dispatchRejected s)
def execAcmd53 (s : State) : Result := .next (dispatchRejected s)
def execAcmd54 (s : State) : Result := .next (dispatchRejected s)
def execAcmd55 (s : State) : Result := .next (dispatchRejected s)
def execAcmd56 (s : State) : Result := .next (dispatchRejected s)
def execAcmd57 (s : State) : Result := .next (dispatchRejected s)
def execAcmd58 (s : State) : Result := .next (dispatchRejected s)
def execAcmd59 (s : State) : Result := .next (dispatchRejected s)
def execAcmd60 (s : State) : Result := .next (dispatchRejected s)
def execAcmd61 (s : State) : Result := .next (dispatchRejected s)
def execAcmd62 (s : State) : Result := .next (dispatchRejected s)
def execAcmd63 (s : State) : Result := .next (dispatchRejected s)

end Sys2Proof.Machine
end

