-- ==== Sys2Proof/Machine/IllegalCmd.lean ====
section
/-! DEFINITION. The illegal commands of CMD mode (spec/41_command_dispatch.md R103): each is rejected, whatever its fields:
`appCommand <- 0; invalidCommand <- 1`, no other register, no tail. One definition per number. -/

namespace Sys2Proof.Machine

def execCmd1 (s : State) : Result := .next (dispatchRejected s)
def execCmd2 (s : State) : Result := .next (dispatchRejected s)
def execCmd3 (s : State) : Result := .next (dispatchRejected s)
def execCmd4 (s : State) : Result := .next (dispatchRejected s)
def execCmd5 (s : State) : Result := .next (dispatchRejected s)
def execCmd6 (s : State) : Result := .next (dispatchRejected s)
def execCmd7 (s : State) : Result := .next (dispatchRejected s)
def execCmd9 (s : State) : Result := .next (dispatchRejected s)
def execCmd10 (s : State) : Result := .next (dispatchRejected s)
def execCmd11 (s : State) : Result := .next (dispatchRejected s)
def execCmd12 (s : State) : Result := .next (dispatchRejected s)
def execCmd13 (s : State) : Result := .next (dispatchRejected s)
def execCmd14 (s : State) : Result := .next (dispatchRejected s)
def execCmd15 (s : State) : Result := .next (dispatchRejected s)
def execCmd18 (s : State) : Result := .next (dispatchRejected s)
def execCmd19 (s : State) : Result := .next (dispatchRejected s)
def execCmd20 (s : State) : Result := .next (dispatchRejected s)
def execCmd21 (s : State) : Result := .next (dispatchRejected s)
def execCmd22 (s : State) : Result := .next (dispatchRejected s)
def execCmd23 (s : State) : Result := .next (dispatchRejected s)
def execCmd24 (s : State) : Result := .next (dispatchRejected s)
def execCmd25 (s : State) : Result := .next (dispatchRejected s)
def execCmd26 (s : State) : Result := .next (dispatchRejected s)
def execCmd27 (s : State) : Result := .next (dispatchRejected s)
def execCmd28 (s : State) : Result := .next (dispatchRejected s)
def execCmd29 (s : State) : Result := .next (dispatchRejected s)
def execCmd30 (s : State) : Result := .next (dispatchRejected s)
def execCmd31 (s : State) : Result := .next (dispatchRejected s)
def execCmd32 (s : State) : Result := .next (dispatchRejected s)
def execCmd33 (s : State) : Result := .next (dispatchRejected s)
def execCmd34 (s : State) : Result := .next (dispatchRejected s)
def execCmd35 (s : State) : Result := .next (dispatchRejected s)
def execCmd36 (s : State) : Result := .next (dispatchRejected s)
def execCmd37 (s : State) : Result := .next (dispatchRejected s)
def execCmd38 (s : State) : Result := .next (dispatchRejected s)
def execCmd39 (s : State) : Result := .next (dispatchRejected s)
def execCmd40 (s : State) : Result := .next (dispatchRejected s)
def execCmd41 (s : State) : Result := .next (dispatchRejected s)
def execCmd42 (s : State) : Result := .next (dispatchRejected s)
def execCmd43 (s : State) : Result := .next (dispatchRejected s)
def execCmd44 (s : State) : Result := .next (dispatchRejected s)
def execCmd45 (s : State) : Result := .next (dispatchRejected s)
def execCmd46 (s : State) : Result := .next (dispatchRejected s)
def execCmd47 (s : State) : Result := .next (dispatchRejected s)
def execCmd48 (s : State) : Result := .next (dispatchRejected s)
def execCmd49 (s : State) : Result := .next (dispatchRejected s)
def execCmd50 (s : State) : Result := .next (dispatchRejected s)
def execCmd51 (s : State) : Result := .next (dispatchRejected s)
def execCmd52 (s : State) : Result := .next (dispatchRejected s)
def execCmd53 (s : State) : Result := .next (dispatchRejected s)
def execCmd54 (s : State) : Result := .next (dispatchRejected s)
def execCmd56 (s : State) : Result := .next (dispatchRejected s)
def execCmd57 (s : State) : Result := .next (dispatchRejected s)
def execCmd59 (s : State) : Result := .next (dispatchRejected s)
def execCmd60 (s : State) : Result := .next (dispatchRejected s)
def execCmd61 (s : State) : Result := .next (dispatchRejected s)
def execCmd62 (s : State) : Result := .next (dispatchRejected s)
def execCmd63 (s : State) : Result := .next (dispatchRejected s)

end Sys2Proof.Machine
end

