-- ==== Sys2Proof/Machine/Dispatch.lean ====
section
/-! DEFINITION. `exec`: the command dispatched, one arm per command (spec/41_command_dispatch.md R94). -/

namespace Sys2Proof.Machine

def exec (i : Instr) (s : State) : Host.Outcome State Fault Refusal :=
  match i with
  | .cmd0 _ => Sys2Proof.Machine.execCmd0 s
  | .cmd1 _ => Sys2Proof.Machine.execCmd1 s
  | .cmd2 _ => Sys2Proof.Machine.execCmd2 s
  | .cmd3 _ => Sys2Proof.Machine.execCmd3 s
  | .cmd4 _ => Sys2Proof.Machine.execCmd4 s
  | .cmd5 _ => Sys2Proof.Machine.execCmd5 s
  | .cmd6 _ => Sys2Proof.Machine.execCmd6 s
  | .cmd7 _ => Sys2Proof.Machine.execCmd7 s
  | .cmd8 _ => Sys2Proof.Machine.execCmd8 s
  | .cmd9 _ => Sys2Proof.Machine.execCmd9 s
  | .cmd10 _ => Sys2Proof.Machine.execCmd10 s
  | .cmd11 _ => Sys2Proof.Machine.execCmd11 s
  | .cmd12 _ => Sys2Proof.Machine.execCmd12 s
  | .cmd13 _ => Sys2Proof.Machine.execCmd13 s
  | .cmd14 _ => Sys2Proof.Machine.execCmd14 s
  | .cmd15 _ => Sys2Proof.Machine.execCmd15 s
  | .cmd16 f => Sys2Proof.Machine.execCmd16 f s
  | .cmd17 f => Sys2Proof.Machine.execCmd17 f s
  | .cmd18 _ => Sys2Proof.Machine.execCmd18 s
  | .cmd19 _ => Sys2Proof.Machine.execCmd19 s
  | .cmd20 _ => Sys2Proof.Machine.execCmd20 s
  | .cmd21 _ => Sys2Proof.Machine.execCmd21 s
  | .cmd22 _ => Sys2Proof.Machine.execCmd22 s
  | .cmd23 _ => Sys2Proof.Machine.execCmd23 s
  | .cmd24 _ => Sys2Proof.Machine.execCmd24 s
  | .cmd25 _ => Sys2Proof.Machine.execCmd25 s
  | .cmd26 _ => Sys2Proof.Machine.execCmd26 s
  | .cmd27 _ => Sys2Proof.Machine.execCmd27 s
  | .cmd28 _ => Sys2Proof.Machine.execCmd28 s
  | .cmd29 _ => Sys2Proof.Machine.execCmd29 s
  | .cmd30 _ => Sys2Proof.Machine.execCmd30 s
  | .cmd31 _ => Sys2Proof.Machine.execCmd31 s
  | .cmd32 _ => Sys2Proof.Machine.execCmd32 s
  | .cmd33 _ => Sys2Proof.Machine.execCmd33 s
  | .cmd34 _ => Sys2Proof.Machine.execCmd34 s
  | .cmd35 _ => Sys2Proof.Machine.execCmd35 s
  | .cmd36 _ => Sys2Proof.Machine.execCmd36 s
  | .cmd37 _ => Sys2Proof.Machine.execCmd37 s
  | .cmd38 _ => Sys2Proof.Machine.execCmd38 s
  | .cmd39 _ => Sys2Proof.Machine.execCmd39 s
  | .cmd40 _ => Sys2Proof.Machine.execCmd40 s
  | .cmd41 _ => Sys2Proof.Machine.execCmd41 s
  | .cmd42 _ => Sys2Proof.Machine.execCmd42 s
  | .cmd43 _ => Sys2Proof.Machine.execCmd43 s
  | .cmd44 _ => Sys2Proof.Machine.execCmd44 s
  | .cmd45 _ => Sys2Proof.Machine.execCmd45 s
  | .cmd46 _ => Sys2Proof.Machine.execCmd46 s
  | .cmd47 _ => Sys2Proof.Machine.execCmd47 s
  | .cmd48 _ => Sys2Proof.Machine.execCmd48 s
  | .cmd49 _ => Sys2Proof.Machine.execCmd49 s
  | .cmd50 _ => Sys2Proof.Machine.execCmd50 s
  | .cmd51 _ => Sys2Proof.Machine.execCmd51 s
  | .cmd52 _ => Sys2Proof.Machine.execCmd52 s
  | .cmd53 _ => Sys2Proof.Machine.execCmd53 s
  | .cmd54 _ => Sys2Proof.Machine.execCmd54 s
  | .cmd55 _ => Sys2Proof.Machine.execCmd55 s
  | .cmd56 _ => Sys2Proof.Machine.execCmd56 s
  | .cmd57 _ => Sys2Proof.Machine.execCmd57 s
  | .cmd58 _ => Sys2Proof.Machine.execCmd58 s
  | .cmd59 _ => Sys2Proof.Machine.execCmd59 s
  | .cmd60 _ => Sys2Proof.Machine.execCmd60 s
  | .cmd61 _ => Sys2Proof.Machine.execCmd61 s
  | .cmd62 _ => Sys2Proof.Machine.execCmd62 s
  | .cmd63 _ => Sys2Proof.Machine.execCmd63 s
  | .acmd0 _ => Sys2Proof.Machine.execAcmd0 s
  | .acmd1 _ => Sys2Proof.Machine.execAcmd1 s
  | .acmd2 _ => Sys2Proof.Machine.execAcmd2 s
  | .acmd3 _ => Sys2Proof.Machine.execAcmd3 s
  | .acmd4 _ => Sys2Proof.Machine.execAcmd4 s
  | .acmd5 _ => Sys2Proof.Machine.execAcmd5 s
  | .acmd6 _ => Sys2Proof.Machine.execAcmd6 s
  | .acmd7 _ => Sys2Proof.Machine.execAcmd7 s
  | .acmd8 _ => Sys2Proof.Machine.execAcmd8 s
  | .acmd9 _ => Sys2Proof.Machine.execAcmd9 s
  | .acmd10 _ => Sys2Proof.Machine.execAcmd10 s
  | .acmd11 _ => Sys2Proof.Machine.execAcmd11 s
  | .acmd12 _ => Sys2Proof.Machine.execAcmd12 s
  | .acmd13 _ => Sys2Proof.Machine.execAcmd13 s
  | .acmd14 _ => Sys2Proof.Machine.execAcmd14 s
  | .acmd15 _ => Sys2Proof.Machine.execAcmd15 s
  | .acmd16 _ => Sys2Proof.Machine.execAcmd16 s
  | .acmd17 _ => Sys2Proof.Machine.execAcmd17 s
  | .acmd18 _ => Sys2Proof.Machine.execAcmd18 s
  | .acmd19 _ => Sys2Proof.Machine.execAcmd19 s
  | .acmd20 _ => Sys2Proof.Machine.execAcmd20 s
  | .acmd21 _ => Sys2Proof.Machine.execAcmd21 s
  | .acmd22 _ => Sys2Proof.Machine.execAcmd22 s
  | .acmd23 _ => Sys2Proof.Machine.execAcmd23 s
  | .acmd24 _ => Sys2Proof.Machine.execAcmd24 s
  | .acmd25 _ => Sys2Proof.Machine.execAcmd25 s
  | .acmd26 _ => Sys2Proof.Machine.execAcmd26 s
  | .acmd27 _ => Sys2Proof.Machine.execAcmd27 s
  | .acmd28 _ => Sys2Proof.Machine.execAcmd28 s
  | .acmd29 _ => Sys2Proof.Machine.execAcmd29 s
  | .acmd30 _ => Sys2Proof.Machine.execAcmd30 s
  | .acmd31 _ => Sys2Proof.Machine.execAcmd31 s
  | .acmd32 _ => Sys2Proof.Machine.execAcmd32 s
  | .acmd33 _ => Sys2Proof.Machine.execAcmd33 s
  | .acmd34 _ => Sys2Proof.Machine.execAcmd34 s
  | .acmd35 _ => Sys2Proof.Machine.execAcmd35 s
  | .acmd36 _ => Sys2Proof.Machine.execAcmd36 s
  | .acmd37 _ => Sys2Proof.Machine.execAcmd37 s
  | .acmd38 _ => Sys2Proof.Machine.execAcmd38 s
  | .acmd39 _ => Sys2Proof.Machine.execAcmd39 s
  | .acmd40 _ => Sys2Proof.Machine.execAcmd40 s
  | .acmd41 _ => Sys2Proof.Machine.execAcmd41 s
  | .acmd42 _ => Sys2Proof.Machine.execAcmd42 s
  | .acmd43 _ => Sys2Proof.Machine.execAcmd43 s
  | .acmd44 _ => Sys2Proof.Machine.execAcmd44 s
  | .acmd45 _ => Sys2Proof.Machine.execAcmd45 s
  | .acmd46 _ => Sys2Proof.Machine.execAcmd46 s
  | .acmd47 _ => Sys2Proof.Machine.execAcmd47 s
  | .acmd48 _ => Sys2Proof.Machine.execAcmd48 s
  | .acmd49 _ => Sys2Proof.Machine.execAcmd49 s
  | .acmd50 _ => Sys2Proof.Machine.execAcmd50 s
  | .acmd51 _ => Sys2Proof.Machine.execAcmd51 s
  | .acmd52 _ => Sys2Proof.Machine.execAcmd52 s
  | .acmd53 _ => Sys2Proof.Machine.execAcmd53 s
  | .acmd54 _ => Sys2Proof.Machine.execAcmd54 s
  | .acmd55 _ => Sys2Proof.Machine.execAcmd55 s
  | .acmd56 _ => Sys2Proof.Machine.execAcmd56 s
  | .acmd57 _ => Sys2Proof.Machine.execAcmd57 s
  | .acmd58 _ => Sys2Proof.Machine.execAcmd58 s
  | .acmd59 _ => Sys2Proof.Machine.execAcmd59 s
  | .acmd60 _ => Sys2Proof.Machine.execAcmd60 s
  | .acmd61 _ => Sys2Proof.Machine.execAcmd61 s
  | .acmd62 _ => Sys2Proof.Machine.execAcmd62 s
  | .acmd63 _ => Sys2Proof.Machine.execAcmd63 s

end Sys2Proof.Machine
end

