-- ==== Sys2Proof/Machine/Framer.lean ====
section
/-! DEFINITION. The command framer: the five states that receive a frame (spec/40_command_framer.md section 2), and the
dispatch at its end. Each arm is one selected step with the output bit `b`. -/

namespace Sys2Proof.Machine

/-- Idle: drive 1, and a 0 is a start bit (R82). -/
def idleStep (b : Bool) (s : State) : State :=
  let s := drive true s
  if b then s else { s with state := .recvBit1 }

/-- RecvBit1: a 1 begins the command number, a 0 abandons the candidate frame (R83). -/
def recvBit1Step (b : Bool) (s : State) : State :=
  if b then enter .recvCmdNr { s with cmd := 0#6 } else { s with state := .idle }

/-- RecvCmdNr: six bits of the command number (R84). -/
def recvCmdNrStep (b : Bool) (s : State) : State :=
  let s := countBit { s with cmd := shiftIn s.cmd b }
  if s.bitcount = 6#6 then enter .recvArg { s with arg := 0#32 } else s

/-- RecvArg: the 32 bits of the argument (R85). -/
def recvArgStep (b : Bool) (s : State) : State :=
  let s := countBit { s with arg := shiftIn s.arg b }
  if s.bitcount = 32#6 then enter .recvChecksum { s with checksum := 0#7 } else s

/-- The command a dispatch looks up in the table its mode chooses (41_command_dispatch.md R93, R94). -/
def dispatchedCommand (last : Bool) (s : State) : Instr :=
  selectCommand (decodeMode s) s.cmd (frameOperands last s)

/-- RecvChecksum: seven bits shift into the checksum, the eighth is discarded and the command is dispatched (R86). -/
def recvChecksumStep (b : Bool) (s : State) : Result :=
  if (countBit s).bitcount = 8#6 then
    andThen (exec (dispatchedCommand b s) s) (enter .sendResponse)
  else if s.bitcount < 7#6 then
    .next (countBit { s with checksum := shiftIn s.checksum b })
  else
    .next (countBit s)

end Sys2Proof.Machine
end

