-- ==== Sys2Proof/Machine/Transfer.lean ====
section
/-! DEFINITION. The block-transfer sequencer (spec/43_block_transfer.md section 2): WaitRead, SendStart, SendData,
SendCrc. None of them reads the output bit (40_command_framer.md R89). -/

namespace Sys2Proof.Machine

/-- WaitRead: drive 1 for at least 8 bit-times and until a buffer is lent; the count saturates at 8 (R115, D12). -/
def waitReadStep (s : State) : State :=
  let s := drive true s
  let s := if s.bitcount < 8#6 then countBit s else s
  if s.bitcount = 8#6 ∧ s.inUse = true then enter .sendStart s else s

/-- SendStart: the token 0xFE, seven 1 bits and a 0 (R116). -/
def sendStartStep (s : State) : State :=
  let s := countBit (drive (s.bitcount != 7#6) s)
  if s.bitcount = 8#6 then enter .sendData s else s

/-- What the last bit-time of a data byte does beside: fold the byte into the CRC and advance the cursor (R117). -/
def advanceCursor (byte : Byte) (s : State) : State :=
  { s with
    crc := crc16Step s.crc byte
    bufPos := s.bufPos + 1#10
    remaining := s.remaining - 1#10
    bitcount := 0#6 }

/-- SendData: one bit of `BUF[bufPos]` (R117). -/
def sendDataStep (s : State) : Result :=
  match s.buf.read s.bufPos.toNat with
  | none => .fault .noBufferByte
  | some byte =>
    match wireBit byte s.bitcount with
    | none => .fault .noWireBit
    | some b =>
      let s := countBit (drive b s)
      if s.bitcount = 8#6 then
        let s := advanceCursor byte s
        .next (if s.remaining = 0#10 then { s with state := .sendCrc } else s)
      else
        .next s

/-- The borrow ends: `inUse <- 0`, and the block no longer has access to the buffer (R118, R28; log 9). -/
def releaseBuffer (s : State) : State := { s with inUse := false, buf := [] }

/-- SendCrc: one bit of the CRC; the sixteenth step ends the borrow (R118). -/
def sendCrcStep (s : State) : Result :=
  match wireBit s.crc s.bitcount with
  | none => .fault .noWireBit
  | some b =>
    let s := countBit (drive b s)
    .next (if s.bitcount = 16#6 then enter .idle (releaseBuffer s) else s)

end Sys2Proof.Machine
end

