-- ==== Sys2Proof/Machine/Edge.lean ====
section
/-! DEFINITION. `Edge(ctrl)`, the one operation that advances the sequencer (spec/40_command_framer.md R81). -/

namespace Sys2Proof.Machine

/-- One bit-time: the arm of the current state, with the output bit `b` (R81, R10). -/
def bitTime (b : Bool) (s : State) : Result :=
  match s.state with
  | .idle => .next (idleStep b s)
  | .recvBit1 => .next (recvBit1Step b s)
  | .recvCmdNr => .next (recvCmdNrStep b s)
  | .recvArg => .next (recvArgStep b s)
  | .recvChecksum => recvChecksumStep b s
  | .sendResponse => .next (sendResponseStep s)
  | .waitRead => .next (waitReadStep s)
  | .sendIfCond => sendIfCondStep s
  | .sendOcr => .next (sendOcrStep s)
  | .sendStart => .next (sendStartStep s)
  | .sendData => sendDataStep s
  | .sendCrc => sendCrcStep s

/-- `Edge(ctrl)`: a deselected edge changes no register; a selected one is one bit-time (R81, R90). -/
def edge (ctrl : Ctrl) (s : State) : Result :=
  if cardSelected ctrl then bitTime (mosi ctrl) s else .next s

end Sys2Proof.Machine
end

