-- ==== Sys2Proof/Machine/Handshake.lean ====
section
/-! DEFINITION. The operations between edges: the handshake (spec/43_block_transfer.md section 3), the probe
(spec/60_exceptions.md R158), `Reset()` (spec/70_reset_and_hazards.md R161), the shared flip-flop's other writers, and the
one operation a step performs. -/

namespace Sys2Proof.Machine

/-- What `Poll()` returns (R124). -/
def pollAnswer (s : State) : Option (BitVec Config.addrWidth) :=
  if s.pending then some s.blockAddress else none

/-- `Provide` accepts: 512 bytes, a read waits, nothing is lent (R125, R126). -/
def provideAccepted (bytes : List Byte) (s : State) : Bool :=
  bufferWellFormed bytes && s.pending && !s.inUse

/-- The borrow begins (R125). -/
def lendBuffer (bytes : List Byte) (s : State) : State :=
  { s with buf := Memory.ofBytes bytes, bufPos := 0#10, remaining := 512#10, pending := false, inUse := true }

/-- `Provide(buf)`: accepted, or refused with no register changed (R125, R126, decision D13). -/
def provide (bytes : List Byte) (s : State) : State :=
  if provideAccepted bytes s then { lendBuffer bytes s with reply := .provide true }
  else { s with reply := .provide false }

/-- The probe's view of the fifteen registers (R158). -/
def probeOf (s : State) : Probe where
  state := s.state.code
  bitcount := s.bitcount
  cmd := s.cmd
  arg := s.arg
  checksum := s.checksum
  appCommand := s.appCommand
  idleFlag := s.idleFlag
  invalidCommand := s.invalidCommand
  pending := s.pending
  blockAddress := s.blockAddress
  inUse := s.inUse
  bufPos := s.bufPos
  remaining := s.remaining
  crc := s.crc
  miso := s.miso

/-- `Reset()` (R161): it ends any borrow; what the agents will do and the last answer are not the block's (log 20). -/
def resetBlock (s : State) : State := State.afterReset s.draws s.inputs s.reply

/-- Another peripheral writes the shared flip-flop: any value while the card is deselected (10_state.md R31, R169); two
writers at once are refused (93_implementation_defined.md U8; log 12). -/
def otherWrite (ctrl : Ctrl) (b : Bool) (s : State) : Result :=
  if cardSelected ctrl then .refused .contendedInput else .next (drive b s)

/-- One operation of one agent (00_scope.md R7, 30_encoding.md R74). -/
def perform (e : Event) (s : State) : Result :=
  match e with
  | .edge ctrl => edge ctrl s
  | .poll => .next { s with reply := .poll (pollAnswer s) }
  | .provide bytes => .next (provide bytes s)
  | .inUse => .next { s with reply := .inUse s.inUse }
  | .probe => .next { s with reply := .probe (probeOf s) }
  | .reset => .next (resetBlock s)
  | .otherWrite ctrl b => otherWrite ctrl b s

/-- The bus register that carries the bit `b` with every select line low, so that the card is selected whichever line is
its own (R30). -/
def selectedCtrl (b : Bool) : Ctrl := (BitVec.ofBool b).setWidth 16 <<< 15

/-- The block one edge before it dispatches the frame `w`: 47 bits received, and the 48th is the next operation (R59, R86,
R88). A number that is no frame cannot be received and changes nothing. -/
def placeFrame (w : Frame) (s : State) : State :=
  if w.wellFormed then
    { s with
      state := .recvChecksum
      bitcount := 7#6
      cmd := frameNumber w
      arg := (frameFields w).arg
      checksum := (frameFields w).checksum
      inputs := .edge (selectedCtrl (frameFields w).discarded) :: s.inputs }
  else s

end Sys2Proof.Machine
end

