-- ==== Sys2Proof/Machine/Step.lean ====
section
/-! DEFINITION. One step: the oldest operation of the agents is performed (spec/00_scope.md R7, spec/20_memory.md R51). -/

namespace Sys2Proof.Machine

/-- The oldest operation to come is performed. Where there is none no agent acts, and the block, which never steps on its
own (R7), stays as it is (log 6). -/
def step (s : State) : Host.Outcome State Fault Refusal :=
  match s.inputs with
  | [] => .next s
  | e :: rest => perform e { s with inputs := rest }

/-- `s` with the frame of the opcode-table word `w` received but for its last bit, so that the very next step dispatches
it (log 14). -/
def State.withFetchWord (s : State) (nbits w : Nat) : State := placeFrame (frameOfTableWord nbits w) s

end Sys2Proof.Machine
end

