-- ==== Sys2Proof/Safety.lean ====
section
/-! DEFINITION. What claims speak of: the invariants of spec/10_state.md R34, the running CRC of
spec/43_block_transfer.md R123, the idle level of `miso` during reception (spec/40_command_framer.md R87), and what the
bus host observes over a run (spec/00_scope.md R8). -/

namespace Sys2Proof.Machine

/-! ### Invariants -/

/-- The largest value `bitcount` has in a state (10_state.md R15). Idle and RecvBit1 neither read nor write it; from
reset it is 0 there. -/
def lastBit : CardState → Nat
  | .idle | .recvBit1 => 0
  | .recvCmdNr => 5
  | .recvArg => 31
  | .recvChecksum => 7
  | .sendResponse => 7
  | .waitRead => 8
  | .sendIfCond => 31
  | .sendOcr => 31
  | .sendStart => 7
  | .sendData => 7
  | .sendCrc => 15

/-- The frame last dispatched was accepted as CMD17 (42_response_formatter.md R108 gives the test). -/
abbrev readAccepted (s : State) : Prop := s.cmd = 17#6 ∧ s.invalidCommand = false

/-- The four states of the block-transfer sequencer (00_scope.md R6). -/
def inTransfer : CardState → Bool
  | .waitRead | .sendStart | .sendData | .sendCrc => true
  | _ => false

/-- The states of a frame's reception and Idle: those that may hold `appCommand` (R34 I8). -/
def beforeDispatch : CardState → Bool
  | .idle | .recvBit1 | .recvCmdNr | .recvArg | .recvChecksum => true
  | _ => false

/-- A read has been accepted and no data byte has been sent: the response byte of a CMD17, the wait, the token. -/
abbrev readAnnounced (s : State) : Prop :=
  (s.state = .sendResponse ∧ readAccepted s) ∨ s.state = .waitRead ∨ s.state = .sendStart

/-- The invariants of R34 (I1 and I7 hold by the types and constants), with what induction needs beside: that a waiting
read is either pending or served, that the cursor stands at the start until SendData, and what `buf` holds. -/
structure Inv (s : State) : Prop where
  /-- I2 -/
  bitcountInRange : s.bitcount.toNat ≤ lastBit s.state
  /-- I3 -/
  pendingWindow : s.pending = true →
    s.inUse = false ∧ ((s.state = .sendResponse ∧ readAccepted s) ∨ s.state = .waitRead)
  /-- I4 -/
  borrowWindow : s.inUse = true →
    s.pending = false ∧ ((s.state = .sendResponse ∧ readAccepted s) ∨ inTransfer s.state = true) ∧
      s.bufPos.toNat + s.remaining.toNat = 512
  /-- I4, I5: nothing has been sent of a buffer until SendData -/
  cursorAtStart : s.inUse = true → readAnnounced s → s.remaining = 512#10
  /-- I5 -/
  tokenBorrowed : s.state = .sendStart → s.inUse = true
  /-- I5 -/
  dataBorrowed : s.state = .sendData → s.inUse = true ∧ 1 ≤ s.remaining.toNat
  /-- I5 -/
  crcBorrowed : s.state = .sendCrc → s.inUse = true ∧ s.remaining = 0#10
  /-- I6 -/
  transferOfRead : inTransfer s.state = true → readAccepted s
  /-- I8 -/
  appCommandWindow : s.appCommand = true →
    s.invalidCommand = false ∧ (beforeDispatch s.state = true ∨ (s.state = .sendResponse ∧ s.cmd = 55#6))
  /-- R53: a read that waits is requested or granted -/
  readServed : ((s.state = .sendResponse ∧ readAccepted s) ∨ s.state = .waitRead) →
    s.pending = true ∨ s.inUse = true
  /-- R28: a whole buffer while it is lent -/
  bufferLent : s.inUse = true → s.buf.isBlock = true
  /-- R28, R33 (a): no access to any buffer otherwise -/
  bufferFree : s.inUse = false → s.buf = []

/-- The running CRC (R123): the seed until the first data byte, then the CRC of the bytes sent. -/
structure CrcInv (s : State) : Prop where
  /-- R99, R27: seeded at acceptance, not modified by the response, the wait or the token -/
  seeded : readAnnounced s → s.crc = Config.crcSeed
  /-- R117: the bytes emitted so far -/
  running : s.state = .sendData → s.crc = crc16 (s.buf.bytes.take s.bufPos.toNat) Config.crcSeed
  /-- R123: all 512 bytes -/
  complete : s.state = .sendCrc → s.crc = crc16 s.buf.bytes Config.crcSeed

/-- `miso` = 1 from the start bit to the dispatch (40_command_framer.md R87). -/
def receptionHigh (s : State) : Prop :=
  (s.state = .recvBit1 ∨ s.state = .recvCmdNr ∨ s.state = .recvArg ∨ s.state = .recvChecksum) → s.miso = true

/-- The step is stopped by a foreign writer of `miso` while the card is selected (log 12), the one stop that a state within
the invariant can meet. -/
def contended (s : State) : Prop :=
  ∃ ctrl b rest, s.inputs = .otherWrite ctrl b :: rest ∧ cardSelected ctrl = true

/-! ### Observation -/

/-- The bits of a field in wire order, most significant first (20_memory.md R42). -/
def wireBits {n : Nat} (v : BitVec n) : List Bool := (List.range n).map v.getMsbD

/-- `k` steps with the value of `miso` after each (00_scope.md R8), if none of them stops. -/
def trace : Nat → State → Option (List Bool × State)
  | 0, s => some ([], s)
  | k + 1, s =>
    match step s with
    | .next t =>
      match trace k t with
      | some (bits, u) => some (t.miso :: bits, u)
      | none => none
    | _ => none

/-- Edges as operations of the bus host. -/
def edges (cs : List Ctrl) : List Event := cs.map Event.edge

/-- Every edge of the list addresses the card. -/
def allSelected (cs : List Ctrl) : Prop := ∀ c ∈ cs, cardSelected c = true

/-- A deselected edge. -/
def isDeselectedEdge : Event → Bool
  | .edge ctrl => !cardSelected ctrl
  | _ => false

/-- The next step is a selected edge that dispatches (the eighth step of RecvChecksum, R86). -/
def dispatching (s : State) : Prop :=
  ∃ ctrl rest, s.inputs = .edge ctrl :: rest ∧ cardSelected ctrl = true ∧ s.state = .recvChecksum ∧ s.bitcount = 7#6

/-- The next step is a selected edge. -/
def selectedEdgeNext (s : State) : Prop :=
  ∃ ctrl rest, s.inputs = .edge ctrl :: rest ∧ cardSelected ctrl = true

/-- The next step offers a buffer that `Provide` accepts (43_block_transfer.md R125). -/
def acceptedProvideNext (s : State) : Prop :=
  ∃ bytes rest, s.inputs = .provide bytes :: rest ∧ bytes.length = 512 ∧ s.pending = true ∧ s.inUse = false

/-- The next step is the sixteenth bit-time of SendCrc (R118). -/
def lastCrcBitNext (s : State) : Prop := selectedEdgeNext s ∧ s.state = .sendCrc ∧ s.bitcount = 15#6

/-- The next step is `Reset()`. -/
def resetNext (s : State) : Prop := ∃ rest, s.inputs = .reset :: rest

/-- An operation that cannot end a wait for a buffer: neither an acceptable `Provide` nor `Reset()` (43_block_transfer.md
R129), nor a contended write, which stops the model (log 12). -/
def cannotEndWait : Event → Bool
  | .edge _ | .poll | .inUse | .probe => true
  | .provide bytes => !bufferWellFormed bytes
  | .otherWrite ctrl _ => !cardSelected ctrl
  | .reset => false

/-! ### Commands -/

/-- Every frame whose first byte is `byte0` is decoded in mode `m` as the command `mk` with the frame's fields
(30_encoding.md R61, R64). -/
def decodesFrom (m : CmdMode) (byte0 : Byte) (mk : CmdFields → Instr) : Prop :=
  ∀ w : Frame, frameByte w 0 = byte0 → decodeFrame m w = .ok (mk (frameFields w))

/-- The state the response byte of a dispatched command ends in (42_response_formatter.md R108). -/
def tailOf (i : Instr) (s : State) : Option CardState :=
  match exec i s with
  | .next t => some (tail t)
  | _ => none

/-- "accepted when" of the command map (30_encoding.md R64). -/
def tableAccepts (m : CmdMode) (n : BitVec 6) (arg : BitVec 32) : Bool :=
  match m with
  | .cmd => decide (n = 0#6 ∨ n = 8#6 ∨ (n = 16#6 ∧ arg = 512#32) ∨ n = 17#6 ∨ n = 55#6 ∨ n = 58#6)
  | .acmd => decide (n = 41#6)

/-- "tail after the response byte" of the command map (R64): the state it begins in, Idle where there is none. -/
def tableTail (m : CmdMode) (n : BitVec 6) : CardState :=
  match m with
  | .cmd => if n = 8#6 then .sendIfCond else if n = 58#6 then .sendOcr else if n = 17#6 then .waitRead else .idle
  | .acmd => .idle

end Sys2Proof.Machine
end

