-- ==== Sys2Proof/Certificates/Slice0/Obligations.lean ====
section
/-! DEFINITION. The statements about the model, for the provers. Each docstring names the rules of spec/ it rests on. -/

open Sys2Proof Sys2Proof.Machine

/-! ## Encoding -/

/-- R59, R60, R63: a command's frame is a frame, and decoding it in the command's mode gives the command back, for every
command of both modes and every value of its fields. -/
def Obligations.EncodedCommandDecodesBack : Prop :=
  ∀ (m : CmdMode) (i : Instr), i.wellFormedIn m = true →
    (encode i).wellFormed = true ∧ decodeFrame m (encode i) = .ok i ∧
      ∀ rest : List Byte, decode m (bytesOfFrame (encode i) ++ rest) = .ok (i, rest)

/-- R60, R63, R73: a frame decodes in mode `m` only to a command of `m` with the frame's number and fields, and encoding
that command gives the frame back: no bit is read twice or dropped. -/
def Obligations.DecodedFrameEncodesBack : Prop :=
  ∀ (m : CmdMode) (w : Frame) (i : Instr), decodeFrame m w = .ok i →
    encode i = w ∧ i.wellFormedIn m = true ∧ i.number = frameNumber w ∧ i.fields = frameFields w

/-- R59: a 48-bit number is no frame exactly when its start bit is 1 or its second framing bit is 0. -/
def Obligations.FramingBitsDecideRejection : Prop :=
  ∀ (m : CmdMode) (w : Frame),
    (decodeFrame m w = .rejected .startBitNotZero ↔ w.getLsbD 47 = true) ∧
    (decodeFrame m w = .rejected .secondBitNotOne ↔ w.getLsbD 47 = false ∧ w.getLsbD 46 = false) ∧
    ((∃ i, decodeFrame m w = .ok i) ↔ w.getLsbD 47 = false ∧ w.getLsbD 46 = true)

/-- R61: the six bytes of a frame, the frame as a number, and the test by which a decoder selects a command. -/
def Obligations.FrameByteView : Prop :=
  (∀ i : Instr,
    bytesOfFrame (encode i) =
      [0x40#8 ||| i.number.setWidth 8,
       i.fields.arg.extractLsb' 24 8, i.fields.arg.extractLsb' 16 8,
       i.fields.arg.extractLsb' 8 8, i.fields.arg.extractLsb' 0 8,
       i.fields.checksum ++ BitVec.ofBool i.fields.discarded] ∧
    (encode i).toNat =
      (0x40 + i.number.toNat) * 2 ^ 40 + i.fields.arg.toNat * 2 ^ 8 + i.fields.checksum.toNat * 2
        + i.fields.discarded.toNat) ∧
  (∀ (m : CmdMode) (w : Frame) (n : BitVec 6),
    (∃ f, decodeFrame m w = .ok (selectCommand m n f)) ↔
      w &&& 0xFF0000000000#48 = (0x40#48 ||| n.setWidth 48) <<< 40)

/-- Derived from R59, R64: a few frames written out from the encoding decode to the commands they stand for, in the mode
they are sent in. -/
def Obligations.WrittenFramesDecode : Prop :=
  decode .cmd [0x40, 0x00, 0x00, 0x00, 0x00, 0x95] =
    .ok (.cmd0 { arg := 0, checksum := 0x4A, discarded := true }, []) ∧
  decode .cmd [0x48, 0x00, 0x00, 0x01, 0xAA, 0x87] =
    .ok (.cmd8 { arg := 0x1AA, checksum := 0x43, discarded := true }, []) ∧
  decode .cmd [0x51, 0x00, 0x80, 0x00, 0x00, 0xFE, 0xFF] =
    .ok (.cmd17 { arg := 0x00800000, checksum := 0x7F, discarded := false }, [0xFF]) ∧
  decode .acmd [0x69, 0x40, 0x00, 0x00, 0x00, 0x77] =
    .ok (.acmd41 { arg := 0x40000000, checksum := 0x3B, discarded := true }, []) ∧
  decode .cmd [0x69, 0x40, 0x00, 0x00, 0x00, 0x77] =
    .ok (.cmd41 { arg := 0x40000000, checksum := 0x3B, discarded := true }, [])

/-! ## Dispatch: the result of every command (each is that command's completion) -/

/-- R95: CMD0, byte 0x40 in CMD mode, always handled: `idleFlag` = 1, the dispatch's two flags, nothing else; its response
byte is 0x01 and no tail follows. -/
def Obligations.Cmd0SetsIdleFlag : Prop :=
  decodesFrom .cmd 0x40 .cmd0 ∧
  ∀ (f : CmdFields) (s : State),
    ∃ t, exec (.cmd0 f) s = .next t ∧
      t = { s with appCommand := false, invalidCommand := false, idleFlag := true } ∧
      responseByte t = 0x01#8 ∧
      (s.cmd = 0#6 → tailOf (.cmd0 f) s = some .idle)

/-- R96: CMD8, byte 0x48 in CMD mode, always handled whatever its argument, no effect of its own; the response byte carries
`idleFlag`, and the tail is SendIfCond, whose word is the argument's low byte. -/
def Obligations.Cmd8HasNoEffect : Prop :=
  decodesFrom .cmd 0x48 .cmd8 ∧
  ∀ (f : CmdFields) (s : State),
    ∃ t, exec (.cmd8 f) s = .next t ∧
      t = { s with appCommand := false, invalidCommand := false } ∧
      responseByte t = (if s.idleFlag then 0x01#8 else 0x00#8) ∧
      echoWord t.arg = (s.arg.extractLsb' 0 8).setWidth 32 ∧
      (s.cmd = 8#6 → tailOf (.cmd8 f) s = some .sendIfCond)

/-- R98: CMD16, byte 0x50 in CMD mode: handled when all 32 bits of the argument equal 512, rejected otherwise; no
register records a block length; no tail in either case; response 0x00 or 0x01 against 0x04 or 0x05. -/
def Obligations.Cmd16AcceptsOnly512 : Prop :=
  decodesFrom .cmd 0x50 .cmd16 ∧
  ∀ (f : CmdFields) (s : State),
    (f.arg = 0x00000200#32 →
      ∃ t, exec (.cmd16 f) s = .next t ∧ t = { s with appCommand := false, invalidCommand := false } ∧
        responseByte t = (if s.idleFlag then 0x01#8 else 0x00#8)) ∧
    (f.arg ≠ 0x00000200#32 →
      ∃ t, exec (.cmd16 f) s = .next t ∧ t = { s with appCommand := false, invalidCommand := true } ∧
        responseByte t = (if s.idleFlag then 0x05#8 else 0x04#8)) ∧
    (s.cmd = 16#6 → tailOf (.cmd16 f) s = some .idle)

/-- R99: CMD17, byte 0x51 in CMD mode, always handled: the block address, the request, the CRC seed; WaitRead follows
the response; from the end of this step `Poll` gives the address and `Provide` may be accepted; and in the states of the
invariant no read is outstanding when a command is dispatched. -/
def Obligations.Cmd17RequestsBlock : Prop :=
  decodesFrom .cmd 0x51 .cmd17 ∧
  (∀ (f : CmdFields) (s : State),
    ∃ t, exec (.cmd17 f) s = .next t ∧
      t = { s with
        appCommand := false
        invalidCommand := false
        blockAddress := BitVec.ofNat Config.addrWidth (f.arg.toNat * 512)
        pending := true
        crc := 0x0000#16 } ∧
      pollAnswer t = some (BitVec.ofNat Config.addrWidth (f.arg.toNat * 512)) ∧
      (s.inUse = false → ∀ bytes : List Byte, bytes.length = 512 → provideAccepted bytes t = true) ∧
      (s.cmd = 17#6 → tailOf (.cmd17 f) s = some .waitRead)) ∧
  (∀ s : State, Inv s → dispatching s → s.pending = false ∧ s.inUse = false)

/-- R100, R104: CMD55, byte 0x77 in CMD mode, always handled: `appCommand` = 1 after the dispatch's clear; no tail. Number
55 while `appCommand` = 1 is ACMD55, which is rejected and leaves `appCommand` = 0. -/
def Obligations.Cmd55EntersApplicationMode : Prop :=
  decodesFrom .cmd 0x77 .cmd55 ∧ decodesFrom .acmd 0x77 .acmd55 ∧
  ∀ (f : CmdFields) (s : State),
    (∃ t, exec (.cmd55 f) s = .next t ∧ t = { s with appCommand := true, invalidCommand := false } ∧
      responseByte t = (if s.idleFlag then 0x01#8 else 0x00#8)) ∧
    (s.cmd = 55#6 → tailOf (.cmd55 f) s = some .idle) ∧
    (∃ t, exec (.acmd55 f) s = .next t ∧ t = { s with appCommand := false, invalidCommand := true } ∧
      responseByte t = (if s.idleFlag then 0x05#8 else 0x04#8))

/-- R101: CMD58, byte 0x7A in CMD mode, always handled, no effect of its own; its tail is SendOcr, of which every bit is 0
whatever the flags and whatever the host sends. -/
def Obligations.Cmd58HasNoEffect : Prop :=
  decodesFrom .cmd 0x7A .cmd58 ∧
  (∀ (f : CmdFields) (s : State),
    ∃ t, exec (.cmd58 f) s = .next t ∧ t = { s with appCommand := false, invalidCommand := false } ∧
      responseByte t = (if s.idleFlag then 0x01#8 else 0x00#8) ∧
      (s.cmd = 58#6 → tailOf (.cmd58 f) s = some .sendOcr)) ∧
  (∀ (b : Bool) (u : State), u.state = .sendOcr → ∃ v, bitTime b u = .next v ∧ v.miso = false)

/-- R102: ACMD41, byte 0x69 in ACMD mode, always handled: `idleFlag` = 0, so that its own response byte is 0x00; no tail.
The same byte in CMD mode is CMD41, which is rejected. -/
def Obligations.Acmd41ClearsIdleFlag : Prop :=
  decodesFrom .acmd 0x69 .acmd41 ∧ decodesFrom .cmd 0x69 .cmd41 ∧
  ∀ (f : CmdFields) (s : State),
    (∃ t, exec (.acmd41 f) s = .next t ∧
      t = { s with appCommand := false, invalidCommand := false, idleFlag := false } ∧ responseByte t = 0x00#8) ∧
    (s.cmd = 41#6 → tailOf (.acmd41 f) s = some .idle) ∧
    exec (.cmd41 f) s = .next { s with appCommand := false, invalidCommand := true }

/-- R103: every illegal number in CMD mode is rejected: `invalidCommand` = 1, `appCommand` = 0, no other register, no tail,
response 0x04 or 0x05. The constructors: cmd1 to cmd7, cmd9 to cmd15, cmd18 to cmd54, cmd56, cmd57, cmd59 to cmd63 (58 of
them). -/
def Obligations.IllegalCmdIsRejected : Prop :=
  ((List.range 64).filter (fun n => n ∉ [0, 8, 16, 17, 55, 58])).length = 58 ∧
  ∀ (i : Instr) (s : State), i.mode = .cmd → i.number.toNat ∉ [0, 8, 16, 17, 55, 58] →
    ∃ t, exec i s = .next t ∧ t = { s with appCommand := false, invalidCommand := true } ∧
      responseByte t = (if s.idleFlag then 0x05#8 else 0x04#8) ∧
      (s.cmd = i.number → tailOf i s = some .idle)

/-- R104: every number but 41 in ACMD mode is rejected: `invalidCommand` = 1, `appCommand` = 0, no other register, no tail
whatever the number. The constructors: acmd0 to acmd40 and acmd42 to acmd63 (63 of them). (That 8, 17 and 58 have no tail
rests on decision D11, log 15.) -/
def Obligations.IllegalAcmdIsRejected : Prop :=
  ((List.range 64).filter (fun n => n ≠ 41)).length = 63 ∧
  ∀ (i : Instr) (s : State), i.mode = .acmd → i.number.toNat ≠ 41 →
    ∃ t, exec i s = .next t ∧ t = { s with appCommand := false, invalidCommand := true } ∧
      responseByte t = (if s.idleFlag then 0x05#8 else 0x04#8) ∧
      (s.cmd = i.number → tailOf i s = some .idle)

/-! ## Dispatch: whole-table rules -/

/-- R64: the command map: the frames of every (mode, number) pair, which pairs are accepted and when, six numbers in CMD
mode and one in ACMD mode, and with which tail; every other pair is rejected and has none. -/
def Obligations.AcceptedCommandMap : Prop :=
  (∀ (m : CmdMode) (n : BitVec 6) (f : CmdFields) (s : State),
    decodesFrom m (0x40#8 ||| n.setWidth 8) (selectCommand m n) ∧
    ∃ t, exec (selectCommand m n f) s = .next t ∧
      t.invalidCommand = !tableAccepts m n f.arg ∧
      (s.cmd = n → tail t = if tableAccepts m n f.arg then tableTail m n else .idle)) ∧
  ((List.range 64).filter (fun n => tableAccepts .cmd (BitVec.ofNat 6 n) 512#32)) = [0, 8, 16, 17, 55, 58] ∧
  ((List.range 64).filter (fun n => tableAccepts .acmd (BitVec.ofNat 6 n) 512#32)) = [41]

/-- R97: after any dispatch other than an accepted CMD55 the decode mode is CMD; and no step but a dispatch or a reset
changes it, so that deselected edges, filler and abandoned frames do not consume it. -/
def Obligations.ApplicationModeLastsOneFrame : Prop :=
  (∀ (i : Instr) (s t : State), exec i s = .next t → (t.appCommand = true ↔ i.mode = .cmd ∧ i.number = 55#6)) ∧
  (∀ s t : State, step s = .next t → t.appCommand ≠ s.appCommand → dispatching s ∨ resetNext s)

/-- The frame of a dispatch (R93 to R104): whatever the command, nothing but the flags and, for CMD17, the three registers
of its arm changes; every byte of the borrowed buffer reads as before. -/
def Obligations.DispatchFrame : Prop :=
  ∀ (i : Instr) (s t : State), exec i s = .next t →
    (t.state = s.state ∧ t.bitcount = s.bitcount ∧ t.cmd = s.cmd ∧ t.arg = s.arg ∧ t.checksum = s.checksum ∧
      t.inUse = s.inUse ∧ t.bufPos = s.bufPos ∧ t.remaining = s.remaining ∧ t.miso = s.miso ∧
      t.inputs = s.inputs ∧ t.reply = s.reply ∧ t.draws = s.draws) ∧
    (∀ a : Nat, t.buf.read a = s.buf.read a) ∧
    ((∀ f, i ≠ .cmd0 f ∧ i ≠ .acmd41 f) → t.idleFlag = s.idleFlag) ∧
    ((∀ f, i ≠ .cmd17 f) → t.pending = s.pending ∧ t.blockAddress = s.blockAddress ∧ t.crc = s.crc)

/-- R105: acceptance depends on nothing but the command: not on the idle flag, not on the history, not on the handshake,
not on the checksum; it is what the success column says, "always" or "argument = 512", for a number of the table of the
mode it was sent in. -/
def Obligations.AcceptanceIgnoresCardStatus : Prop :=
  ∀ (m : CmdMode) (n : BitVec 6) (f g : CmdFields) (s u t v : State), f.arg = g.arg →
    exec (selectCommand m n f) s = .next t → exec (selectCommand m n g) u = .next v →
    t.invalidCommand = v.invalidCommand ∧ t.invalidCommand = !tableAccepts m n f.arg

/-- R5, R86, R59: the checksum and the last bit of a frame change nothing: two frames that agree in their upper 40 bits
have the same effect in every state. -/
def Obligations.ChecksumIsNeverExamined : Prop :=
  ∀ (m : CmdMode) (w v : Frame) (i j : Instr) (s : State), w.extractLsb' 8 40 = v.extractLsb' 8 40 →
    decodeFrame m w = .ok i → decodeFrame m v = .ok j → exec i s = exec j s

/-- R149: a rejection changes `invalidCommand` and, as every dispatch, `appCommand`; the rejected command has had no
effect at all; and control goes to the same SendResponse that every dispatched command reaches. -/
def Obligations.RejectionIsPrecise : Prop :=
  (∀ (i : Instr) (s t : State), exec i s = .next t → t.invalidCommand = true →
    t = { s with appCommand := false, invalidCommand := true }) ∧
  (∀ s t : State, dispatching s → step s = .next t → t.state = .sendResponse ∧ t.bitcount = 0#6)

/-- R106: the arithmetic of a dispatch: CMD16's unsigned comparison with 512, and CMD17's product, a left shift by 9 that
wraps at the width, is a multiple of 512, and is exact for every argument at 41 bits or more. (Exact below 2^23 at every
width `ADDR_WIDTH` may have: decision D14, log 3.) -/
def Obligations.DispatchArithmetic : Prop :=
  (∀ arg : BitVec 32, blockLengthAccepted arg = true ↔ arg.toNat = 512) ∧
  (∀ (w : Nat) (arg : BitVec 32), 32 ≤ w →
    (∀ k : Nat, k < w → (blockAddressOf w arg).getLsbD k = (decide (9 ≤ k) && arg.getLsbD (k - 9))) ∧
    (blockAddressOf w arg).toNat % 512 = 0 ∧
    (blockAddressOf w arg).toNat = arg.toNat * 512 % 2 ^ w ∧
    (41 ≤ w ∨ arg.toNat < 2 ^ 23 → (blockAddressOf w arg).toNat = arg.toNat * 512)) ∧
  32 ≤ Config.addrWidth

/-! ## Steps -/

/-- R86, R93: at the last bit of a frame a step runs the command that the decoder reads from the frame received, in the
mode `appCommand` gives, and then begins the response. -/
def Obligations.StepRunsDecodedCommand : Prop :=
  ∀ (s : State) (ctrl : Ctrl) (rest : List Event) (i : Instr),
    s.inputs = .edge ctrl :: rest → cardSelected ctrl = true → s.state = .recvChecksum → s.bitcount = 7#6 →
    decodeFrame (decodeMode s) (receivedFrame (mosi ctrl) s) = .ok i →
    (decodeMode s = if s.appCommand then CmdMode.acmd else CmdMode.cmd) ∧
    step s = match exec i { s with inputs := rest } with
      | .next t => .next { t with bitcount := 0#6, state := .sendResponse }
      | .fault e => .fault e
      | .refused e => .refused e

/-- The model's fetch (log 14): the very next step after a table word is placed runs the command the decoder reads from
it in the mode of the state, with the frame's fields in their registers. -/
def Obligations.PlacedWordRunsNext : Prop :=
  ∀ (s : State) (w : Nat) (i : Instr),
    decodeFrame (decodeMode s) (frameOfTableWord 48 w) = .ok i →
    step (s.withFetchWord 48 w) =
      match exec i { s with
          state := .recvChecksum, bitcount := 7#6, cmd := i.number, arg := i.fields.arg,
          checksum := i.fields.checksum } with
      | .next t => .next { t with bitcount := 0#6, state := .sendResponse }
      | .fault e => .fault e
      | .refused e => .refused e

/-- R90: a deselected edge changes no register, in any state: it is consumed and that is all. (Decision D16, log 27.) -/
def Obligations.DeselectedEdgeChangesNothing : Prop :=
  ∀ (s : State) (ctrl : Ctrl) (rest : List Event),
    s.inputs = .edge ctrl :: rest → ctrl.getLsbD (selectBit Config.ssLine) = true →
    step s = .next { s with inputs := rest }

/-- R91, R30: the card is selected exactly when its own select bit is 0 at this edge, whatever the other lines carry and
whatever earlier edges carried; of the sixteen bits of `ctrl` an edge reads that bit and bit 15 only. -/
def Obligations.EdgeReadsTwoBits : Prop :=
  (∀ c : Ctrl, cardSelected c = !c.getLsbD (selectBit Config.ssLine)) ∧
  (∀ (c d : Ctrl) (s : State),
    c.getLsbD 15 = d.getLsbD 15 → c.getLsbD (selectBit Config.ssLine) = d.getLsbD (selectBit Config.ssLine) →
    edge c s = edge d s)

/-- R90, R163 (b): a run with deselected edges anywhere in it ends as the run without them. -/
def Obligations.DeselectedEdgesVanish : Prop :=
  ∀ (evs rest : List Event) (s : State),
    Host.Core.run Sys2Proof.core evs.length { s with inputs := evs ++ rest } =
      Host.Core.run Sys2Proof.core (evs.filter (fun e => !isDeselectedEdge e)).length
        { s with inputs := evs.filter (fun e => !isDeselectedEdge e) ++ rest }

/-- R82 to R86, R92: the next state of every step of the framer, written out. (That the receive states leave `miso` alone is
decision D7, that the eighth checksum bit is stored nowhere decision D9: log 18.) -/
def Obligations.FramerTransitions : Prop :=
  ∀ (s : State) (ctrl : Ctrl) (rest : List Event), s.inputs = .edge ctrl :: rest → cardSelected ctrl = true →
    (s.state = .idle → mosi ctrl = true → step s = .next { s with inputs := rest, miso := true }) ∧
    (s.state = .idle → mosi ctrl = false →
      step s = .next { s with inputs := rest, miso := true, state := .recvBit1 }) ∧
    (s.state = .recvBit1 → mosi ctrl = true →
      step s = .next { s with inputs := rest, cmd := 0#6, bitcount := 0#6, state := .recvCmdNr }) ∧
    (s.state = .recvBit1 → mosi ctrl = false → step s = .next { s with inputs := rest, state := .idle }) ∧
    (s.state = .recvCmdNr → s.bitcount.toNat < 5 →
      step s = .next { s with
        inputs := rest, cmd := shiftIn s.cmd (mosi ctrl), bitcount := s.bitcount + 1#6 }) ∧
    (s.state = .recvCmdNr → s.bitcount = 5#6 →
      step s = .next { s with
        inputs := rest, cmd := shiftIn s.cmd (mosi ctrl), arg := 0#32, bitcount := 0#6, state := .recvArg }) ∧
    (s.state = .recvArg → s.bitcount.toNat < 31 →
      step s = .next { s with
        inputs := rest, arg := shiftIn s.arg (mosi ctrl), bitcount := s.bitcount + 1#6 }) ∧
    (s.state = .recvArg → s.bitcount = 31#6 →
      step s = .next { s with
        inputs := rest, arg := shiftIn s.arg (mosi ctrl), checksum := 0#7, bitcount := 0#6,
        state := .recvChecksum }) ∧
    (s.state = .recvChecksum → s.bitcount.toNat < 7 →
      step s = .next { s with
        inputs := rest, checksum := shiftIn s.checksum (mosi ctrl), bitcount := s.bitcount + 1#6 }) ∧
    (s.state = .recvChecksum → s.bitcount = 7#6 →
      ∃ t, exec (dispatchedCommand (mosi ctrl) s) { s with inputs := rest } = .next t ∧
        step s = .next { t with bitcount := 0#6, state := .sendResponse })

/-- R115, R116, R119: the next state of every step of WaitRead and SendStart, written out. (The exit from WaitRead at any
bit-time from the eighth on is decision D12, log 17.) -/
def Obligations.WaitAndTokenTransitions : Prop :=
  ∀ (s : State) (ctrl : Ctrl) (rest : List Event), s.inputs = .edge ctrl :: rest → cardSelected ctrl = true →
    (s.state = .waitRead → s.bitcount.toNat < 7 →
      step s = .next { s with inputs := rest, miso := true, bitcount := s.bitcount + 1#6 }) ∧
    (s.state = .waitRead → s.bitcount = 7#6 ∨ s.bitcount = 8#6 → s.inUse = false →
      step s = .next { s with inputs := rest, miso := true, bitcount := 8#6 }) ∧
    (s.state = .waitRead → s.bitcount = 7#6 ∨ s.bitcount = 8#6 → s.inUse = true →
      step s = .next { s with inputs := rest, miso := true, bitcount := 0#6, state := .sendStart }) ∧
    (s.state = .sendStart → s.bitcount.toNat < 7 →
      step s = .next { s with inputs := rest, miso := true, bitcount := s.bitcount + 1#6 }) ∧
    (s.state = .sendStart → s.bitcount = 7#6 →
      step s = .next { s with inputs := rest, miso := false, bitcount := 0#6, state := .sendData })

/-! ## Runs on the wire -/

/-- R88, R87, R60: from Idle, 48 selected edges that carry a frame most significant bit first dispatch exactly the
command the decoder reads from that frame, with the fields in their registers and `miso` = 1 after every edge. (That the
receive states leave `miso` alone is decision D7, log 18.) -/
def Obligations.FrameReceptionDispatches : Prop :=
  ∀ (w : Frame) (cs : List Ctrl) (rest : List Event) (s : State),
    w.wellFormed = true → allSelected cs → cs.map mosi = wireBits w →
    s.state = .idle → s.inputs = edges cs ++ rest →
    ∃ i t, decodeFrame (decodeMode s) w = .ok i ∧
      exec i { s with
        inputs := rest, state := .recvChecksum, bitcount := 7#6, cmd := frameNumber w,
        arg := w.extractLsb' 8 32, checksum := w.extractLsb' 1 7, miso := true } = .next t ∧
      trace 48 s = some (List.replicate 48 true, { t with bitcount := 0#6, state := .sendResponse })

/-- R66, R107, R108: the eight bit-times after the dispatch put the response byte on the wire, whatever the host sends
meanwhile; it is one of 0x00, 0x01, 0x04, 0x05; then the tail begins. (That `idleFlag` stands at bit-time 7 is the spec's
reading of conflict C1, log 19; that a rejected command has no tail is decision D11, log 15.) -/
def Obligations.ResponseByteOnWire : Prop :=
  ∀ (cs : List Ctrl) (rest : List Event) (s : State),
    allSelected cs → cs.length = 8 → s.state = .sendResponse → s.bitcount = 0#6 → s.inputs = edges cs ++ rest →
    (wireBits (responseByte s) = [false, false, false, false, false, s.invalidCommand, false, s.idleFlag] ∧
      (responseByte s = 0x00#8 ∨ responseByte s = 0x01#8 ∨ responseByte s = 0x04#8 ∨ responseByte s = 0x05#8)) ∧
    trace 8 s = some (wireBits (responseByte s),
      { s with inputs := rest, miso := s.idleFlag, bitcount := 0#6, state := tail s })

/-- R111, R172: a whole command on the wire, 56 edges from Idle: 48 ones while the frame is received, then the response
byte of the command dispatched, then its tail's first state; for every frame, in either decode mode. (That a rejected
command has no tail is decision D11, log 15; the place of `idleFlag` in the byte is the spec's reading of conflict C1,
log 19.) -/
def Obligations.CommandTransaction : Prop :=
  ∀ (w : Frame) (cs ds : List Ctrl) (rest : List Event) (s : State),
    w.wellFormed = true → allSelected (cs ++ ds) → cs.map mosi = wireBits w → ds.length = 8 →
    s.state = .idle → s.inputs = edges (cs ++ ds) ++ rest →
    ∃ t, trace 56 s = some (List.replicate 48 true ++ wireBits (responseByte t), t) ∧
      t.invalidCommand = !tableAccepts (decodeMode s) (frameNumber w) (w.extractLsb' 8 32) ∧
      t.idleFlag = (if decodeMode s = .cmd ∧ frameNumber w = 0#6 then true
        else if decodeMode s = .acmd ∧ frameNumber w = 41#6 then false else s.idleFlag) ∧
      t.appCommand = decide (decodeMode s = .cmd ∧ frameNumber w = 55#6) ∧
      t.state = (if t.invalidCommand then .idle else tableTail (decodeMode s) (frameNumber w)) ∧
      t.bitcount = 0#6 ∧ t.cmd = frameNumber w ∧ t.arg = w.extractLsb' 8 32 ∧ t.inputs = rest

/-- R67, R109: the CMD8 tail: 24 zeros, then the low byte of the argument, then Idle. -/
def Obligations.EchoTailOnWire : Prop :=
  ∀ (cs : List Ctrl) (rest : List Event) (s : State),
    allSelected cs → cs.length = 32 → s.state = .sendIfCond → s.bitcount = 0#6 → s.inputs = edges cs ++ rest →
    trace 32 s = some (List.replicate 24 false ++ wireBits (s.arg.extractLsb' 0 8),
      { s with inputs := rest, miso := s.arg.getLsbD 0, bitcount := 0#6, state := .idle })

/-- R68, R110: the CMD58 tail: 32 zero bits whatever the flags, then Idle. -/
def Obligations.OcrTailOnWire : Prop :=
  ∀ (cs : List Ctrl) (rest : List Event) (s : State),
    allSelected cs → cs.length = 32 → s.state = .sendOcr → s.bitcount = 0#6 → s.inputs = edges cs ++ rest →
    trace 32 s = some (List.replicate 32 false,
      { s with inputs := rest, miso := false, bitcount := 0#6, state := .idle })

/-- R115, R120, R121: a buffer lent after `k` WaitRead steps: the wait lasts 8 steps in all, or `k + 1` where `k` is 8 or
more, and every one of them sends 1. (Decision D12, log 17.) -/
def Obligations.WaitLastsUntilBuffer : Prop :=
  ∀ (bytes : List Byte) (cs ds : List Ctrl) (rest : List Event) (s : State),
    bytes.length = 512 → allSelected (cs ++ ds) → cs.length + ds.length = max 8 (cs.length + 1) →
    s.state = .waitRead → s.bitcount = 0#6 → s.pending = true → s.inUse = false →
    s.inputs = edges cs ++ [.provide bytes] ++ edges ds ++ rest →
    ∃ m, trace (cs.length + 1 + ds.length) s = some
      (List.replicate cs.length true ++ [m] ++ List.replicate ds.length true,
        { s with
          inputs := rest, reply := .provide true, miso := true, bitcount := 0#6, state := .sendStart, pending := false,
          inUse := true, bufPos := 0#10, remaining := 512#10, buf := Memory.ofBytes bytes })

/-- R117: one byte of a block: its eight bits most significant first, whatever the host sends; then the byte is folded into
the CRC and the cursor advances, to SendCrc when no byte is left. -/
def Obligations.DataByteOnWire : Prop :=
  ∀ (byte : Byte) (cs : List Ctrl) (rest : List Event) (s : State),
    allSelected cs → cs.length = 8 → s.state = .sendData → s.bitcount = 0#6 →
    s.buf.read s.bufPos.toNat = some byte → s.inputs = edges cs ++ rest →
    trace 8 s = some (wireBits byte,
      { s with
        inputs := rest, miso := byte.getLsbD 0, bitcount := 0#6, crc := crc16Step s.crc byte,
        bufPos := s.bufPos + 1#10, remaining := s.remaining - 1#10,
        state := if s.remaining = 1#10 then .sendCrc else .sendData })

/-- R118: the 16 bits of the CRC most significant first; the sixteenth step ends the borrow and goes to Idle; the CRC and
the cursor keep their values. (That `buf` is empty then is the model's form of the end of the borrow, log 9.) -/
def Obligations.CrcOnWire : Prop :=
  ∀ (cs : List Ctrl) (rest : List Event) (s : State),
    allSelected cs → cs.length = 16 → s.state = .sendCrc → s.bitcount = 0#6 → s.inputs = edges cs ++ rest →
    trace 16 s = some (wireBits s.crc,
      { s with
        inputs := rest, miso := s.crc.getLsbD 0, bitcount := 0#6, state := .idle, inUse := false, buf := [] })

/-- R69, R116 to R118, R122, R123: a block on the wire, from SendStart: the token 0xFE, the 512 bytes bit-exact most
significant bit first, the CRC16 over them with seed 0, then Idle with the borrow ended. (The bytes are the buffer as it
was when lent, the snapshot that decision D15 admits, log 8; the empty field after the borrow is log 9.) -/
def Obligations.BlockOnWire : Prop :=
  ∀ (bytes : List Byte) (cs : List Ctrl) (rest : List Event) (s : State),
    bytes.length = 512 → allSelected cs → cs.length = 8 + 4096 + 16 →
    s.state = .sendStart → s.bitcount = 0#6 → s.buf = Memory.ofBytes bytes →
    s.bufPos = 0#10 → s.remaining = 512#10 → s.crc = 0x0000#16 → s.inputs = edges cs ++ rest →
    trace (8 + 4096 + 16) s = some
      (wireBits 0xFE#8 ++ bytes.flatMap (fun b => wireBits b) ++ wireBits (crc16 bytes 0x0000#16),
        { s with
          inputs := rest, miso := (crc16 bytes 0x0000#16).getLsbD 0, bitcount := 0#6, state := .idle,
          inUse := false, buf := [], bufPos := 512#10, remaining := 0#10, crc := crc16 bytes 0x0000#16 })

/-- R114, R121: a whole block read: a CMD17 frame from Idle in CMD mode, a 512-byte buffer lent right after its dispatch,
and the edges that clock everything out: the response byte, the wait of eight ones, the token, the block and its CRC, then
Idle. (The bytes are the buffer as it was when lent, the snapshot that decision D15 admits, log 8; the place of `idleFlag`
in the response byte is the spec's reading of conflict C1, log 19.) -/
def Obligations.ReadTransaction : Prop :=
  ∀ (w : Frame) (bytes : List Byte) (cs ds es : List Ctrl) (rest : List Event) (s : State),
    w.wellFormed = true → frameNumber w = 17#6 → bytes.length = 512 →
    allSelected (cs ++ ds ++ es) → cs.map mosi = wireBits w → ds.length = 8 → es.length = 8 + 8 + 4096 + 16 →
    s.state = .idle → s.appCommand = false → s.pending = false → s.inUse = false →
    s.inputs = edges cs ++ [.provide bytes] ++ edges ds ++ edges es ++ rest →
    ∃ t, trace (48 + 1 + 8 + (8 + 8 + 4096 + 16)) s = some
        (List.replicate 49 true
          ++ [false, false, false, false, false, false, false, s.idleFlag]
          ++ List.replicate 8 true ++ wireBits 0xFE#8 ++ bytes.flatMap (fun b => wireBits b)
          ++ wireBits (crc16 bytes 0x0000#16), t) ∧
      t.state = .idle ∧ t.inUse = false ∧ t.pending = false ∧ t.invalidCommand = false ∧ t.appCommand = false ∧
      t.idleFlag = s.idleFlag ∧ t.blockAddress = blockAddressOf Config.addrWidth (w.extractLsb' 8 32) ∧
      t.bufPos = 512#10 ∧ t.remaining = 0#10 ∧ t.crc = crc16 bytes 0x0000#16 ∧ t.reply = .provide true ∧
      t.inputs = rest

/-- R129, R143: a starved read: in WaitRead without a buffer no run of edges, polls, queries, probes or unacceptable
buffers ends the wait; the request stays and `Poll` keeps returning the address. -/
def Obligations.StarvedReadStaysParked : Prop :=
  ∀ (evs rest : List Event) (s : State),
    (∀ e ∈ evs, cannotEndWait e = true) → s.state = .waitRead → s.pending = true → s.inUse = false →
    s.inputs = evs ++ rest →
    ∃ bits t, trace evs.length s = some (bits, t) ∧
      t.state = .waitRead ∧ t.pending = true ∧ t.inUse = false ∧ pollAnswer t = some s.blockAddress ∧
      (∀ (k : Nat) (ctrl : Ctrl), evs[k]? = some (.edge ctrl) → cardSelected ctrl = true → bits[k]? = some true)

/-! ## The operations between edges -/

/-- R124: `Poll` answers the block address while a read waits and nothing otherwise, in any state, and changes no
register; the address 0 is an answer. -/
def Obligations.PollIsPureRead : Prop :=
  ∀ (s : State) (rest : List Event), s.inputs = .poll :: rest →
    (s.pending = true → step s = .next { s with inputs := rest, reply := .poll (some s.blockAddress) }) ∧
    (s.pending = false → step s = .next { s with inputs := rest, reply := .poll none })

/-- R127, R158: `InUse` and the probe are pure reads: they answer, and change no register; the probe reads all fifteen, the
state as the number of R36. (The probe's reach is decision D19, its numbering D18: log 25.) -/
def Obligations.InUseAndProbeArePureReads : Prop :=
  ∀ (s : State) (rest : List Event),
    (s.inputs = .inUse :: rest → step s = .next { s with inputs := rest, reply := .inUse s.inUse }) ∧
    (s.inputs = .probe :: rest → ∃ p, step s = .next { s with inputs := rest, reply := .probe p } ∧
      p.state = s.state.code ∧ p.bitcount = s.bitcount ∧ p.cmd = s.cmd ∧ p.arg = s.arg ∧ p.checksum = s.checksum ∧
      p.appCommand = s.appCommand ∧ p.idleFlag = s.idleFlag ∧ p.invalidCommand = s.invalidCommand ∧
      p.pending = s.pending ∧ p.blockAddress = s.blockAddress ∧ p.inUse = s.inUse ∧ p.bufPos = s.bufPos ∧
      p.remaining = s.remaining ∧ p.crc = s.crc ∧ p.miso = s.miso)

/-- R125: an acceptable buffer is lent: every byte of it is readable at its index, the cursor stands at its start with 512
to go, the request is cleared; nothing else changes, in particular neither the sequencer nor the wire. -/
def Obligations.ProvideLendsBuffer : Prop :=
  ∀ (s : State) (bytes : List Byte) (rest : List Event),
    s.inputs = .provide bytes :: rest → bytes.length = 512 → s.pending = true → s.inUse = false →
    ∃ t, step s = .next t ∧
      t = { s with
        inputs := rest, reply := .provide true, buf := t.buf, bufPos := 0#10, remaining := 512#10,
        pending := false, inUse := true } ∧
      (∀ k : Nat, t.buf.read k = bytes[k]?)

/-- R126: a buffer offered without a pending read, while one is in use, or of another length than 512 is refused: no
register changes, nothing is borrowed, the answer is false. -/
def Obligations.ProvideMisuseIsRefused : Prop :=
  ∀ (s : State) (bytes : List Byte) (rest : List Event),
    s.inputs = .provide bytes :: rest → bytes.length ≠ 512 ∨ s.pending = false ∨ s.inUse = true →
    step s = .next { s with inputs := rest, reply := .provide false }

/-- R161: `Reset()` from any state: the values the spec gives, and a borrow or request ended. (The unspecified registers
take free values, log 4, of which nothing is said.) -/
def Obligations.ResetEstablishesIdle : Prop :=
  ∀ (s : State) (rest : List Event), s.inputs = .reset :: rest →
    ∃ t, step s = .next t ∧ t.state = .idle ∧ t.bitcount = 0#6 ∧ t.appCommand = false ∧ t.invalidCommand = false ∧
      t.idleFlag = Config.resetIdleFlag ∧ t.pending = false ∧ t.inUse = false ∧ (∀ k : Nat, t.buf.read k = none)

/-! ## Who writes what -/

/-- R20: `idleFlag` is set by CMD0, cleared by ACMD41, and written by nothing else but a reset. -/
def Obligations.IdleFlagWriters : Prop :=
  ∀ s t : State, step s = .next t → t.idleFlag ≠ s.idleFlag →
    (dispatching s ∧ s.appCommand = false ∧ s.cmd = 0#6 ∧ t.idleFlag = true) ∨
    (dispatching s ∧ s.appCommand = true ∧ s.cmd = 41#6 ∧ t.idleFlag = false) ∨ resetNext s

/-- R22: `pending` is set by a dispatched CMD17, cleared by an accepted `Provide`, and written by nothing else but a
reset. -/
def Obligations.PendingWriters : Prop :=
  ∀ s t : State, step s = .next t → t.pending ≠ s.pending →
    (dispatching s ∧ s.appCommand = false ∧ s.cmd = 17#6 ∧ t.pending = true) ∨
    (acceptedProvideNext s ∧ t.pending = false) ∨ resetNext s

/-- R24: `inUse` is set by an accepted `Provide` and cleared by the sixteenth bit-time of SendCrc, in the step that writes
the last CRC bit and goes to Idle, and by nothing else but a reset. -/
def Obligations.InUseWriters : Prop :=
  ∀ s t : State, step s = .next t → t.inUse ≠ s.inUse →
    (acceptedProvideNext s ∧ t.inUse = true) ∨
    (lastCrcBitNext s ∧ t.inUse = false ∧ t.state = .idle ∧ t.miso = s.crc.getLsbD 0) ∨ resetNext s

/-- R14: the sequencer moves only at a selected edge or a reset; no handshake operation moves it. -/
def Obligations.SequencerMovesAtSelectedEdges : Prop :=
  ∀ s t : State, step s = .next t → (t.state ≠ s.state ∨ t.bitcount ≠ s.bitcount) → selectedEdgeNext s ∨ resetNext s

/-- R27, R138: the CRC is seeded by a dispatched CMD17 and replaced, by the step of the engine, at the eighth bit-time of
a data byte; nothing else writes it but a reset. -/
def Obligations.CrcWriters : Prop :=
  ∀ s t : State, step s = .next t → t.crc ≠ s.crc →
    (dispatching s ∧ s.appCommand = false ∧ s.cmd = 17#6 ∧ t.crc = 0x0000#16) ∨
    (selectedEdgeNext s ∧ s.state = .sendData ∧ s.bitcount = 7#6 ∧
      ∃ byte, s.buf.read s.bufPos.toNat = some byte ∧ t.crc = crc16Step s.crc byte) ∨ resetNext s

/-- R28, R41, R49: the block writes no byte of the buffer: every index reads as before, except that an accepted `Provide`
lends one and the last CRC bit or a reset ends the borrow. -/
def Obligations.BufferIsNeverWritten : Prop :=
  ∀ s t : State, step s = .next t → (∃ k : Nat, t.buf.read k ≠ s.buf.read k) →
    acceptedProvideNext s ∨ lastCrcBitNext s ∨ resetNext s

/-- R31: `miso` is written only by selected edges, not by those of the four receive states; beside them only a foreign
writer of the shared flip-flop (log 12) or a reset can change it. -/
def Obligations.MisoWriters : Prop :=
  ∀ s t : State, step s = .next t → t.miso ≠ s.miso →
    (selectedEdgeNext s ∧ s.state ≠ .recvBit1 ∧ s.state ≠ .recvCmdNr ∧ s.state ≠ .recvArg ∧
      s.state ≠ .recvChecksum) ∨
    (∃ ctrl rest, s.inputs = .otherWrite ctrl t.miso :: rest ∧ cardSelected ctrl = false) ∨ resetNext s

/-! ## Invariants -/

/-- R35, R162: the reset state, and that it meets the invariants. -/
def Obligations.ResetState : Prop :=
  State.reset.state = .idle ∧ State.reset.bitcount = 0#6 ∧ State.reset.appCommand = false ∧
  State.reset.idleFlag = Config.resetIdleFlag ∧ State.reset.invalidCommand = false ∧
  State.reset.pending = false ∧ State.reset.inUse = false ∧ State.reset.buf.wf = true ∧
  Inv State.reset ∧ CrcInv State.reset ∧ receptionHigh State.reset

/-- R34: every step of every agent keeps the invariants, from every state that meets them. -/
def Obligations.StepKeepsInvariants : Prop :=
  ∀ s t : State, Inv s → step s = .next t → Inv t

/-- R145: in a state that meets the invariants no operation of any agent stops the machine, but for two writers of `miso`
at once. -/
def Obligations.NoStopWithinInvariants : Prop :=
  ∀ s : State, Inv s → ¬contended s → ∃ t, step s = .next t

/-- R123: the running CRC is the CRC of the bytes sent, kept by every step. -/
def Obligations.StepKeepsRunningCrc : Prop :=
  ∀ s t : State, Inv s → CrcInv s → step s = .next t → CrcInv t

/-- R87: `miso` is 1 from the start bit to the dispatch, kept by every step except a foreign write of the flip-flop. -/
def Obligations.ReceptionKeepsMisoHigh : Prop :=
  ∀ s t : State, receptionHigh s → (∀ ctrl b rest, s.inputs ≠ .otherWrite ctrl b :: rest) →
    step s = .next t → receptionHigh t

/-- R53, R160: at most one request is outstanding, and Idle is quiescent; and the borrowed memory is canonical. -/
def Obligations.QuiescentIdle : Prop :=
  ∀ s : State, Inv s →
    ¬(s.pending = true ∧ s.inUse = true) ∧ (s.state = .idle → s.pending = false ∧ s.inUse = false) ∧
    s.buf.wf = true

/-! ## The CRC16 engine -/

/-- R135: the table step agrees with the bitwise computation for every CRC and every byte. -/
def Obligations.TableStepAgreesWithBitwise : Prop :=
  ∀ (c : BitVec 16) (b : Byte), crc16Step c b = crc16Bitwise c b

/-- R137: zero, linearity and self-check of the engine. -/
def Obligations.CrcLaws : Prop :=
  (∀ n : Nat, crc16 (List.replicate n 0x00#8) 0x0000#16 = 0x0000#16) ∧
  (∀ (c d : BitVec 16) (a b : Byte), crc16Step (c ^^^ d) (a ^^^ b) = crc16Step c a ^^^ crc16Step d b) ∧
  (∀ data : List Byte,
    crc16 (data ++ [(crc16 data 0x0000#16).extractLsb' 8 8, (crc16 data 0x0000#16).extractLsb' 0 8]) 0x0000#16 =
      0x0000#16)
end

