-- ==== Sys2Proof/Laws/PerInstr.lean ====
section
/-! SUPPORT. Facts about every command, one lemma per constructor of Instr. -/

namespace Sys2Proof.Laws.Selected

/-- The lookup of R94 gives each command back from its mode, number and fields: no entry of the two tables stands in
another's place. -/
def Statement (i : Instr) : Prop := selectCommand i.mode i.number i.fields = i

theorem cmd0 (f : CmdFields) : Statement (.cmd0 f) := rfl
theorem cmd1 (f : CmdFields) : Statement (.cmd1 f) := rfl
theorem cmd2 (f : CmdFields) : Statement (.cmd2 f) := rfl
theorem cmd3 (f : CmdFields) : Statement (.cmd3 f) := rfl
theorem cmd4 (f : CmdFields) : Statement (.cmd4 f) := rfl
theorem cmd5 (f : CmdFields) : Statement (.cmd5 f) := rfl
theorem cmd6 (f : CmdFields) : Statement (.cmd6 f) := rfl
theorem cmd7 (f : CmdFields) : Statement (.cmd7 f) := rfl
theorem cmd8 (f : CmdFields) : Statement (.cmd8 f) := rfl
theorem cmd9 (f : CmdFields) : Statement (.cmd9 f) := rfl
theorem cmd10 (f : CmdFields) : Statement (.cmd10 f) := rfl
theorem cmd11 (f : CmdFields) : Statement (.cmd11 f) := rfl
theorem cmd12 (f : CmdFields) : Statement (.cmd12 f) := rfl
theorem cmd13 (f : CmdFields) : Statement (.cmd13 f) := rfl
theorem cmd14 (f : CmdFields) : Statement (.cmd14 f) := rfl
theorem cmd15 (f : CmdFields) : Statement (.cmd15 f) := rfl
theorem cmd16 (f : CmdFields) : Statement (.cmd16 f) := rfl
theorem cmd17 (f : CmdFields) : Statement (.cmd17 f) := rfl
theorem cmd18 (f : CmdFields) : Statement (.cmd18 f) := rfl
theorem cmd19 (f : CmdFields) : Statement (.cmd19 f) := rfl
theorem cmd20 (f : CmdFields) : Statement (.cmd20 f) := rfl
theorem cmd21 (f : CmdFields) : Statement (.cmd21 f) := rfl
theorem cmd22 (f : CmdFields) : Statement (.cmd22 f) := rfl
theorem cmd23 (f : CmdFields) : Statement (.cmd23 f) := rfl
theorem cmd24 (f : CmdFields) : Statement (.cmd24 f) := rfl
theorem cmd25 (f : CmdFields) : Statement (.cmd25 f) := rfl
theorem cmd26 (f : CmdFields) : Statement (.cmd26 f) := rfl
theorem cmd27 (f : CmdFields) : Statement (.cmd27 f) := rfl
theorem cmd28 (f : CmdFields) : Statement (.cmd28 f) := rfl
theorem cmd29 (f : CmdFields) : Statement (.cmd29 f) := rfl
theorem cmd30 (f : CmdFields) : Statement (.cmd30 f) := rfl
theorem cmd31 (f : CmdFields) : Statement (.cmd31 f) := rfl
theorem cmd32 (f : CmdFields) : Statement (.cmd32 f) := rfl
theorem cmd33 (f : CmdFields) : Statement (.cmd33 f) := rfl
theorem cmd34 (f : CmdFields) : Statement (.cmd34 f) := rfl
theorem cmd35 (f : CmdFields) : Statement (.cmd35 f) := rfl
theorem cmd36 (f : CmdFields) : Statement (.cmd36 f) := rfl
theorem cmd37 (f : CmdFields) : Statement (.cmd37 f) := rfl
theorem cmd38 (f : CmdFields) : Statement (.cmd38 f) := rfl
theorem cmd39 (f : CmdFields) : Statement (.cmd39 f) := rfl
theorem cmd40 (f : CmdFields) : Statement (.cmd40 f) := rfl
theorem cmd41 (f : CmdFields) : Statement (.cmd41 f) := rfl
theorem cmd42 (f : CmdFields) : Statement (.cmd42 f) := rfl
theorem cmd43 (f : CmdFields) : Statement (.cmd43 f) := rfl
theorem cmd44 (f : CmdFields) : Statement (.cmd44 f) := rfl
theorem cmd45 (f : CmdFields) : Statement (.cmd45 f) := rfl
theorem cmd46 (f : CmdFields) : Statement (.cmd46 f) := rfl
theorem cmd47 (f : CmdFields) : Statement (.cmd47 f) := rfl
theorem cmd48 (f : CmdFields) : Statement (.cmd48 f) := rfl
theorem cmd49 (f : CmdFields) : Statement (.cmd49 f) := rfl
theorem cmd50 (f : CmdFields) : Statement (.cmd50 f) := rfl
theorem cmd51 (f : CmdFields) : Statement (.cmd51 f) := rfl
theorem cmd52 (f : CmdFields) : Statement (.cmd52 f) := rfl
theorem cmd53 (f : CmdFields) : Statement (.cmd53 f) := rfl
theorem cmd54 (f : CmdFields) : Statement (.cmd54 f) := rfl
theorem cmd55 (f : CmdFields) : Statement (.cmd55 f) := rfl
theorem cmd56 (f : CmdFields) : Statement (.cmd56 f) := rfl
theorem cmd57 (f : CmdFields) : Statement (.cmd57 f) := rfl
theorem cmd58 (f : CmdFields) : Statement (.cmd58 f) := rfl
theorem cmd59 (f : CmdFields) : Statement (.cmd59 f) := rfl
theorem cmd60 (f : CmdFields) : Statement (.cmd60 f) := rfl
theorem cmd61 (f : CmdFields) : Statement (.cmd61 f) := rfl
theorem cmd62 (f : CmdFields) : Statement (.cmd62 f) := rfl
theorem cmd63 (f : CmdFields) : Statement (.cmd63 f) := rfl
theorem acmd0 (f : CmdFields) : Statement (.acmd0 f) := rfl
theorem acmd1 (f : CmdFields) : Statement (.acmd1 f) := rfl
theorem acmd2 (f : CmdFields) : Statement (.acmd2 f) := rfl
theorem acmd3 (f : CmdFields) : Statement (.acmd3 f) := rfl
theorem acmd4 (f : CmdFields) : Statement (.acmd4 f) := rfl
theorem acmd5 (f : CmdFields) : Statement (.acmd5 f) := rfl
theorem acmd6 (f : CmdFields) : Statement (.acmd6 f) := rfl
theorem acmd7 (f : CmdFields) : Statement (.acmd7 f) := rfl
theorem acmd8 (f : CmdFields) : Statement (.acmd8 f) := rfl
theorem acmd9 (f : CmdFields) : Statement (.acmd9 f) := rfl
theorem acmd10 (f : CmdFields) : Statement (.acmd10 f) := rfl
theorem acmd11 (f : CmdFields) : Statement (.acmd11 f) := rfl
theorem acmd12 (f : CmdFields) : Statement (.acmd12 f) := rfl
theorem acmd13 (f : CmdFields) : Statement (.acmd13 f) := rfl
theorem acmd14 (f : CmdFields) : Statement (.acmd14 f) := rfl
theorem acmd15 (f : CmdFields) : Statement (.acmd15 f) := rfl
theorem acmd16 (f : CmdFields) : Statement (.acmd16 f) := rfl
theorem acmd17 (f : CmdFields) : Statement (.acmd17 f) := rfl
theorem acmd18 (f : CmdFields) : Statement (.acmd18 f) := rfl
theorem acmd19 (f : CmdFields) : Statement (.acmd19 f) := rfl
theorem acmd20 (f : CmdFields) : Statement (.acmd20 f) := rfl
theorem acmd21 (f : CmdFields) : Statement (.acmd21 f) := rfl
theorem acmd22 (f : CmdFields) : Statement (.acmd22 f) := rfl
theorem acmd23 (f : CmdFields) : Statement (.acmd23 f) := rfl
theorem acmd24 (f : CmdFields) : Statement (.acmd24 f) := rfl
theorem acmd25 (f : CmdFields) : Statement (.acmd25 f) := rfl
theorem acmd26 (f : CmdFields) : Statement (.acmd26 f) := rfl
theorem acmd27 (f : CmdFields) : Statement (.acmd27 f) := rfl
theorem acmd28 (f : CmdFields) : Statement (.acmd28 f) := rfl
theorem acmd29 (f : CmdFields) : Statement (.acmd29 f) := rfl
theorem acmd30 (f : CmdFields) : Statement (.acmd30 f) := rfl
theorem acmd31 (f : CmdFields) : Statement (.acmd31 f) := rfl
theorem acmd32 (f : CmdFields) : Statement (.acmd32 f) := rfl
theorem acmd33 (f : CmdFields) : Statement (.acmd33 f) := rfl
theorem acmd34 (f : CmdFields) : Statement (.acmd34 f) := rfl
theorem acmd35 (f : CmdFields) : Statement (.acmd35 f) := rfl
theorem acmd36 (f : CmdFields) : Statement (.acmd36 f) := rfl
theorem acmd37 (f : CmdFields) : Statement (.acmd37 f) := rfl
theorem acmd38 (f : CmdFields) : Statement (.acmd38 f) := rfl
theorem acmd39 (f : CmdFields) : Statement (.acmd39 f) := rfl
theorem acmd40 (f : CmdFields) : Statement (.acmd40 f) := rfl
theorem acmd41 (f : CmdFields) : Statement (.acmd41 f) := rfl
theorem acmd42 (f : CmdFields) : Statement (.acmd42 f) := rfl
theorem acmd43 (f : CmdFields) : Statement (.acmd43 f) := rfl
theorem acmd44 (f : CmdFields) : Statement (.acmd44 f) := rfl
theorem acmd45 (f : CmdFields) : Statement (.acmd45 f) := rfl
theorem acmd46 (f : CmdFields) : Statement (.acmd46 f) := rfl
theorem acmd47 (f : CmdFields) : Statement (.acmd47 f) := rfl
theorem acmd48 (f : CmdFields) : Statement (.acmd48 f) := rfl
theorem acmd49 (f : CmdFields) : Statement (.acmd49 f) := rfl
theorem acmd50 (f : CmdFields) : Statement (.acmd50 f) := rfl
theorem acmd51 (f : CmdFields) : Statement (.acmd51 f) := rfl
theorem acmd52 (f : CmdFields) : Statement (.acmd52 f) := rfl
theorem acmd53 (f : CmdFields) : Statement (.acmd53 f) := rfl
theorem acmd54 (f : CmdFields) : Statement (.acmd54 f) := rfl
theorem acmd55 (f : CmdFields) : Statement (.acmd55 f) := rfl
theorem acmd56 (f : CmdFields) : Statement (.acmd56 f) := rfl
theorem acmd57 (f : CmdFields) : Statement (.acmd57 f) := rfl
theorem acmd58 (f : CmdFields) : Statement (.acmd58 f) := rfl
theorem acmd59 (f : CmdFields) : Statement (.acmd59 f) := rfl
theorem acmd60 (f : CmdFields) : Statement (.acmd60 f) := rfl
theorem acmd61 (f : CmdFields) : Statement (.acmd61 f) := rfl
theorem acmd62 (f : CmdFields) : Statement (.acmd62 f) := rfl
theorem acmd63 (f : CmdFields) : Statement (.acmd63 f) := rfl

end Sys2Proof.Laws.Selected
end

