-- ==== Sys2Proof/Laws/Decode.lean ====
section
/-! SUPPORT. The lookup by mode and number, and the fields of an encoded frame. -/

namespace Sys2Proof

/-- A fact about the 64 command numbers, number by number. -/
theorem forall_number (P : BitVec 6 → Prop) (h : ∀ k : Fin 64, P (BitVec.ofFin k)) (n : BitVec 6) : P n := h n.toFin

/-- What the lookup finds has the mode, the number and the fields it was asked for (R64, R94). -/
theorem selectCommand_cmd (n : BitVec 6) (f : CmdFields) :
    (selectCommand .cmd n f).mode = .cmd ∧ (selectCommand .cmd n f).number = n ∧ (selectCommand .cmd n f).fields = f := by
  refine forall_number (fun n => (selectCommand .cmd n f).mode = .cmd ∧ (selectCommand .cmd n f).number = n ∧
    (selectCommand .cmd n f).fields = f) (fun k => ?_) n
  fin_cases k <;> exact ⟨rfl, rfl, rfl⟩

theorem selectCommand_acmd (n : BitVec 6) (f : CmdFields) :
    (selectCommand .acmd n f).mode = .acmd ∧ (selectCommand .acmd n f).number = n ∧
      (selectCommand .acmd n f).fields = f := by
  refine forall_number (fun n => (selectCommand .acmd n f).mode = .acmd ∧ (selectCommand .acmd n f).number = n ∧
    (selectCommand .acmd n f).fields = f) (fun k => ?_) n
  fin_cases k <;> exact ⟨rfl, rfl, rfl⟩

theorem selectCommand_spec (m : CmdMode) (n : BitVec 6) (f : CmdFields) :
    (selectCommand m n f).mode = m ∧ (selectCommand m n f).number = n ∧ (selectCommand m n f).fields = f := by
  cases m
  · exact selectCommand_cmd n f
  · exact selectCommand_acmd n f

/-- A frame that passes both framing checks decodes to the lookup's command (R59, R63). -/
theorem decodeFrame_of_wellFormed (m : CmdMode) (w : Frame) (h : w.wellFormed = true) :
    decodeFrame m w = .ok (selectCommand m (frameNumber w) (frameFields w)) := by
  simp only [Frame.wellFormed, Bool.and_eq_true] at h
  simp [decodeFrame, h.1, h.2]

/-- The number of a frame built from its parts (R59, R60). -/
theorem frameNumber_append (n : BitVec 6) (a : BitVec 32) (c : BitVec 7) (d : BitVec 1) :
    frameNumber (0b01#2 ++ n ++ a ++ c ++ d) = n := by
  unfold frameNumber
  ext i hi
  simp only [BitVec.getElem_extractLsb', BitVec.getLsbD_append]
  have h1 : ¬ 40 + i < 1 := by omega
  have h2 : ¬ 40 + i - 1 < 7 := by omega
  have h3 : ¬ 40 + i - 1 - 7 < 32 := by omega
  have h4 : 40 + i - 1 - 7 - 32 = i := by omega
  rw [if_neg h1, if_neg h2, if_neg h3, h4, if_pos hi, BitVec.getLsbD_eq_getElem]

theorem frameFields_append (n : BitVec 6) (a : BitVec 32) (c : BitVec 7) (d : Bool) :
    frameFields (0b01#2 ++ n ++ a ++ c ++ BitVec.ofBool d) = { arg := a, checksum := c, discarded := d } := by
  have ha : (0b01#2 ++ n ++ a ++ c ++ BitVec.ofBool d).extractLsb' 8 32 = a := by
    ext i hi
    simp only [BitVec.getElem_extractLsb', BitVec.getLsbD_append]
    have h1 : ¬ 8 + i < 1 := by omega
    have h2 : ¬ 8 + i - 1 < 7 := by omega
    have h3 : 8 + i - 1 - 7 = i := by omega
    rw [if_neg h1, if_neg h2, h3, if_pos hi, BitVec.getLsbD_eq_getElem]
  have hc : (0b01#2 ++ n ++ a ++ c ++ BitVec.ofBool d).extractLsb' 1 7 = c := by
    ext i hi
    simp only [BitVec.getElem_extractLsb', BitVec.getLsbD_append]
    have h1 : ¬ 1 + i < 1 := by omega
    have h2 : 1 + i - 1 = i := by omega
    rw [if_neg h1, h2, if_pos hi, BitVec.getLsbD_eq_getElem]
  have hd : (0b01#2 ++ n ++ a ++ c ++ BitVec.ofBool d).getLsbD 0 = d := by
    rw [BitVec.getLsbD_append, if_pos (by decide)]; cases d <;> rfl
  simp only [frameFields, ha, hc, hd]

theorem wellFormed_append (n : BitVec 6) (a : BitVec 32) (c : BitVec 7) (d : BitVec 1) :
    Frame.wellFormed (0b01#2 ++ n ++ a ++ c ++ d) = true := by
  simp only [Frame.wellFormed, Frame.startBitOk, Frame.secondBitOk, BitVec.getLsbD_append]
  rfl

end Sys2Proof
end

