-- ==== Sys2Proof/Laws/Memory.lean ====
section
/-! SUPPORT. The laws of the borrowed memory: lending gives the canonical form, and reading gives the byte lent. -/

namespace Sys2Proof.Machine

theorem Memory.risingFrom_cellsFrom (bytes : List Byte) (lo a : Nat) (h : lo ≤ a) :
    Memory.risingFrom lo (Memory.cellsFrom a bytes) = true := by
  induction bytes generalizing lo a with
  | nil => rfl
  | cons b bs ih => simp [Memory.cellsFrom, Memory.risingFrom, h, ih]

/-- Lending gives the canonical form. -/
theorem Memory.wf_ofBytes (bytes : List Byte) : Memory.wf (Memory.ofBytes bytes) = true :=
  Memory.risingFrom_cellsFrom bytes 0 0 (Nat.le_refl 0)

/-- The memory of a block that has nothing lent is canonical. -/
theorem Memory.wf_nil : Memory.wf [] = true := rfl

theorem Memory.read_cellsFrom (bytes : List Byte) (a k : Nat) :
    Memory.read (Memory.cellsFrom a bytes) (a + k) = bytes[k]? := by
  induction bytes generalizing a k with
  | nil => rfl
  | cons b bs ih =>
    cases k with
    | zero => simp [Memory.cellsFrom, Memory.read]
    | succ k =>
      have hk : a + (k + 1) = a + 1 + k := by omega
      have hne : ¬a = a + 1 + k := by omega
      simp [Memory.cellsFrom, Memory.read, hk, hne, ih]

/-- Reading a lent buffer gives the byte lent at that index. -/
theorem Memory.read_ofBytes (bytes : List Byte) (k : Nat) : Memory.read (Memory.ofBytes bytes) k = bytes[k]? := by
  simpa [Memory.ofBytes] using Memory.read_cellsFrom bytes 0 k

theorem Memory.bytes_cellsFrom (bytes : List Byte) (a : Nat) : Memory.bytes (Memory.cellsFrom a bytes) = bytes := by
  induction bytes generalizing a with
  | nil => rfl
  | cons b bs ih => simpa [Memory.cellsFrom, Memory.bytes] using ih (a + 1)

@[simp] theorem Memory.bytes_ofBytes (bytes : List Byte) : Memory.bytes (Memory.ofBytes bytes) = bytes :=
  Memory.bytes_cellsFrom bytes 0

theorem Memory.addresses_cellsFrom (bytes : List Byte) (a : Nat) :
    (Memory.cellsFrom a bytes).map Prod.fst = List.range' a bytes.length := by
  induction bytes generalizing a with
  | nil => rfl
  | cons b bs ih => simp [Memory.cellsFrom, List.range'_succ, ih]

/-- A buffer of 512 bytes is a whole buffer. -/
theorem Memory.isBlock_ofBytes (bytes : List Byte) (h : bytes.length = Config.blockSize) :
    Memory.isBlock (Memory.ofBytes bytes) = true := by
  simp [Memory.isBlock, Memory.ofBytes, Memory.addresses_cellsFrom, h, List.range_eq_range']

theorem Memory.eq_cellsFrom (m : Memory) (a : Nat) (h : m.map Prod.fst = List.range' a m.length) :
    m = Memory.cellsFrom a m.bytes := by
  induction m generalizing a with
  | nil => rfl
  | cons c m ih =>
    obtain ⟨x, b⟩ := c
    simp only [List.map_cons, List.length_cons, List.range'_succ, List.cons.injEq] at h
    simpa [Memory.bytes, Memory.cellsFrom, h.1] using ih (a + 1) h.2

/-- A whole buffer is its 512 bytes laid out from index 0. -/
theorem Memory.eq_ofBytes_of_isBlock (m : Memory) (h : m.isBlock = true) :
    m = Memory.ofBytes m.bytes ∧ m.bytes.length = 512 := by
  simp only [Memory.isBlock, decide_eq_true_eq] at h
  have hl : m.length = Config.blockSize := by simpa using congrArg List.length h
  refine ⟨Memory.eq_cellsFrom m 0 ?_, by simpa [Memory.bytes, Config.blockSize] using hl⟩
  rw [h, hl, List.range_eq_range']

/-- A whole buffer is in canonical form. -/
theorem Memory.wf_of_isBlock (m : Memory) (h : m.isBlock = true) : m.wf = true := by
  rw [(Memory.eq_ofBytes_of_isBlock m h).1]; exact Memory.wf_ofBytes _

/-- A whole buffer has a byte at every index below 512. -/
theorem Memory.read_of_isBlock (m : Memory) (h : m.isBlock = true) (k : Nat) (hk : k < 512) :
    ∃ b, m.read k = some b ∧ m.bytes[k]? = some b := by
  obtain ⟨hm, hl⟩ := Memory.eq_ofBytes_of_isBlock m h
  have hr : m.read k = m.bytes[k]? := by
    conv_lhs => rw [hm]
    exact Memory.read_ofBytes _ _
  refine ⟨m.bytes[k]'(by omega), ?_, by simp⟩
  rw [hr]; simp

end Sys2Proof.Machine
end

