-- ==== Sys2Proof/Laws/State.lean ====
section
/-! SUPPORT. What each register operation does to each field of State: one lemma per field, all by rfl, so that no proof
unfolds a record update. -/

namespace Sys2Proof.Machine

/-! ### drive -/

@[simp] theorem drive_state (b : Bool) (s : State) : (drive b s).state = s.state := rfl
@[simp] theorem drive_bitcount (b : Bool) (s : State) : (drive b s).bitcount = s.bitcount := rfl
@[simp] theorem drive_cmd (b : Bool) (s : State) : (drive b s).cmd = s.cmd := rfl
@[simp] theorem drive_arg (b : Bool) (s : State) : (drive b s).arg = s.arg := rfl
@[simp] theorem drive_checksum (b : Bool) (s : State) : (drive b s).checksum = s.checksum := rfl
@[simp] theorem drive_appCommand (b : Bool) (s : State) : (drive b s).appCommand = s.appCommand := rfl
@[simp] theorem drive_idleFlag (b : Bool) (s : State) : (drive b s).idleFlag = s.idleFlag := rfl
@[simp] theorem drive_invalidCommand (b : Bool) (s : State) : (drive b s).invalidCommand = s.invalidCommand := rfl
@[simp] theorem drive_pending (b : Bool) (s : State) : (drive b s).pending = s.pending := rfl
@[simp] theorem drive_blockAddress (b : Bool) (s : State) : (drive b s).blockAddress = s.blockAddress := rfl
@[simp] theorem drive_inUse (b : Bool) (s : State) : (drive b s).inUse = s.inUse := rfl
@[simp] theorem drive_bufPos (b : Bool) (s : State) : (drive b s).bufPos = s.bufPos := rfl
@[simp] theorem drive_remaining (b : Bool) (s : State) : (drive b s).remaining = s.remaining := rfl
@[simp] theorem drive_crc (b : Bool) (s : State) : (drive b s).crc = s.crc := rfl
@[simp] theorem drive_miso (b : Bool) (s : State) : (drive b s).miso = b := rfl
@[simp] theorem drive_buf (b : Bool) (s : State) : (drive b s).buf = s.buf := rfl
@[simp] theorem drive_inputs (b : Bool) (s : State) : (drive b s).inputs = s.inputs := rfl
@[simp] theorem drive_reply (b : Bool) (s : State) : (drive b s).reply = s.reply := rfl
@[simp] theorem drive_draws (b : Bool) (s : State) : (drive b s).draws = s.draws := rfl

/-! ### countBit -/

@[simp] theorem countBit_state (s : State) : (countBit s).state = s.state := rfl
@[simp] theorem countBit_bitcount (s : State) : (countBit s).bitcount = s.bitcount + 1#6 := rfl
@[simp] theorem countBit_cmd (s : State) : (countBit s).cmd = s.cmd := rfl
@[simp] theorem countBit_arg (s : State) : (countBit s).arg = s.arg := rfl
@[simp] theorem countBit_checksum (s : State) : (countBit s).checksum = s.checksum := rfl
@[simp] theorem countBit_appCommand (s : State) : (countBit s).appCommand = s.appCommand := rfl
@[simp] theorem countBit_idleFlag (s : State) : (countBit s).idleFlag = s.idleFlag := rfl
@[simp] theorem countBit_invalidCommand (s : State) : (countBit s).invalidCommand = s.invalidCommand := rfl
@[simp] theorem countBit_pending (s : State) : (countBit s).pending = s.pending := rfl
@[simp] theorem countBit_blockAddress (s : State) : (countBit s).blockAddress = s.blockAddress := rfl
@[simp] theorem countBit_inUse (s : State) : (countBit s).inUse = s.inUse := rfl
@[simp] theorem countBit_bufPos (s : State) : (countBit s).bufPos = s.bufPos := rfl
@[simp] theorem countBit_remaining (s : State) : (countBit s).remaining = s.remaining := rfl
@[simp] theorem countBit_crc (s : State) : (countBit s).crc = s.crc := rfl
@[simp] theorem countBit_miso (s : State) : (countBit s).miso = s.miso := rfl
@[simp] theorem countBit_buf (s : State) : (countBit s).buf = s.buf := rfl
@[simp] theorem countBit_inputs (s : State) : (countBit s).inputs = s.inputs := rfl
@[simp] theorem countBit_reply (s : State) : (countBit s).reply = s.reply := rfl
@[simp] theorem countBit_draws (s : State) : (countBit s).draws = s.draws := rfl

/-! ### enter -/

@[simp] theorem enter_state (st : CardState) (s : State) : (enter st s).state = st := rfl
@[simp] theorem enter_bitcount (st : CardState) (s : State) : (enter st s).bitcount = 0#6 := rfl
@[simp] theorem enter_cmd (st : CardState) (s : State) : (enter st s).cmd = s.cmd := rfl
@[simp] theorem enter_arg (st : CardState) (s : State) : (enter st s).arg = s.arg := rfl
@[simp] theorem enter_checksum (st : CardState) (s : State) : (enter st s).checksum = s.checksum := rfl
@[simp] theorem enter_appCommand (st : CardState) (s : State) : (enter st s).appCommand = s.appCommand := rfl
@[simp] theorem enter_idleFlag (st : CardState) (s : State) : (enter st s).idleFlag = s.idleFlag := rfl
@[simp] theorem enter_invalidCommand (st : CardState) (s : State) : (enter st s).invalidCommand = s.invalidCommand := rfl
@[simp] theorem enter_pending (st : CardState) (s : State) : (enter st s).pending = s.pending := rfl
@[simp] theorem enter_blockAddress (st : CardState) (s : State) : (enter st s).blockAddress = s.blockAddress := rfl
@[simp] theorem enter_inUse (st : CardState) (s : State) : (enter st s).inUse = s.inUse := rfl
@[simp] theorem enter_bufPos (st : CardState) (s : State) : (enter st s).bufPos = s.bufPos := rfl
@[simp] theorem enter_remaining (st : CardState) (s : State) : (enter st s).remaining = s.remaining := rfl
@[simp] theorem enter_crc (st : CardState) (s : State) : (enter st s).crc = s.crc := rfl
@[simp] theorem enter_miso (st : CardState) (s : State) : (enter st s).miso = s.miso := rfl
@[simp] theorem enter_buf (st : CardState) (s : State) : (enter st s).buf = s.buf := rfl
@[simp] theorem enter_inputs (st : CardState) (s : State) : (enter st s).inputs = s.inputs := rfl
@[simp] theorem enter_reply (st : CardState) (s : State) : (enter st s).reply = s.reply := rfl
@[simp] theorem enter_draws (st : CardState) (s : State) : (enter st s).draws = s.draws := rfl

/-! ### raiseReject -/

@[simp] theorem raiseReject_state (s : State) : (raiseReject s).state = s.state := rfl
@[simp] theorem raiseReject_bitcount (s : State) : (raiseReject s).bitcount = s.bitcount := rfl
@[simp] theorem raiseReject_cmd (s : State) : (raiseReject s).cmd = s.cmd := rfl
@[simp] theorem raiseReject_arg (s : State) : (raiseReject s).arg = s.arg := rfl
@[simp] theorem raiseReject_checksum (s : State) : (raiseReject s).checksum = s.checksum := rfl
@[simp] theorem raiseReject_appCommand (s : State) : (raiseReject s).appCommand = s.appCommand := rfl
@[simp] theorem raiseReject_idleFlag (s : State) : (raiseReject s).idleFlag = s.idleFlag := rfl
@[simp] theorem raiseReject_invalidCommand (s : State) : (raiseReject s).invalidCommand = true := rfl
@[simp] theorem raiseReject_pending (s : State) : (raiseReject s).pending = s.pending := rfl
@[simp] theorem raiseReject_blockAddress (s : State) : (raiseReject s).blockAddress = s.blockAddress := rfl
@[simp] theorem raiseReject_inUse (s : State) : (raiseReject s).inUse = s.inUse := rfl
@[simp] theorem raiseReject_bufPos (s : State) : (raiseReject s).bufPos = s.bufPos := rfl
@[simp] theorem raiseReject_remaining (s : State) : (raiseReject s).remaining = s.remaining := rfl
@[simp] theorem raiseReject_crc (s : State) : (raiseReject s).crc = s.crc := rfl
@[simp] theorem raiseReject_miso (s : State) : (raiseReject s).miso = s.miso := rfl
@[simp] theorem raiseReject_buf (s : State) : (raiseReject s).buf = s.buf := rfl
@[simp] theorem raiseReject_inputs (s : State) : (raiseReject s).inputs = s.inputs := rfl
@[simp] theorem raiseReject_reply (s : State) : (raiseReject s).reply = s.reply := rfl
@[simp] theorem raiseReject_draws (s : State) : (raiseReject s).draws = s.draws := rfl

/-! ### clearAppCommand -/

@[simp] theorem clearAppCommand_state (s : State) : (clearAppCommand s).state = s.state := rfl
@[simp] theorem clearAppCommand_bitcount (s : State) : (clearAppCommand s).bitcount = s.bitcount := rfl
@[simp] theorem clearAppCommand_cmd (s : State) : (clearAppCommand s).cmd = s.cmd := rfl
@[simp] theorem clearAppCommand_arg (s : State) : (clearAppCommand s).arg = s.arg := rfl
@[simp] theorem clearAppCommand_checksum (s : State) : (clearAppCommand s).checksum = s.checksum := rfl
@[simp] theorem clearAppCommand_appCommand (s : State) : (clearAppCommand s).appCommand = false := rfl
@[simp] theorem clearAppCommand_idleFlag (s : State) : (clearAppCommand s).idleFlag = s.idleFlag := rfl
@[simp] theorem clearAppCommand_invalidCommand (s : State) : (clearAppCommand s).invalidCommand = s.invalidCommand := rfl
@[simp] theorem clearAppCommand_pending (s : State) : (clearAppCommand s).pending = s.pending := rfl
@[simp] theorem clearAppCommand_blockAddress (s : State) : (clearAppCommand s).blockAddress = s.blockAddress := rfl
@[simp] theorem clearAppCommand_inUse (s : State) : (clearAppCommand s).inUse = s.inUse := rfl
@[simp] theorem clearAppCommand_bufPos (s : State) : (clearAppCommand s).bufPos = s.bufPos := rfl
@[simp] theorem clearAppCommand_remaining (s : State) : (clearAppCommand s).remaining = s.remaining := rfl
@[simp] theorem clearAppCommand_crc (s : State) : (clearAppCommand s).crc = s.crc := rfl
@[simp] theorem clearAppCommand_miso (s : State) : (clearAppCommand s).miso = s.miso := rfl
@[simp] theorem clearAppCommand_buf (s : State) : (clearAppCommand s).buf = s.buf := rfl
@[simp] theorem clearAppCommand_inputs (s : State) : (clearAppCommand s).inputs = s.inputs := rfl
@[simp] theorem clearAppCommand_reply (s : State) : (clearAppCommand s).reply = s.reply := rfl
@[simp] theorem clearAppCommand_draws (s : State) : (clearAppCommand s).draws = s.draws := rfl

/-! ### latchHandled -/

@[simp] theorem latchHandled_state (s : State) : (latchHandled s).state = s.state := rfl
@[simp] theorem latchHandled_bitcount (s : State) : (latchHandled s).bitcount = s.bitcount := rfl
@[simp] theorem latchHandled_cmd (s : State) : (latchHandled s).cmd = s.cmd := rfl
@[simp] theorem latchHandled_arg (s : State) : (latchHandled s).arg = s.arg := rfl
@[simp] theorem latchHandled_checksum (s : State) : (latchHandled s).checksum = s.checksum := rfl
@[simp] theorem latchHandled_appCommand (s : State) : (latchHandled s).appCommand = s.appCommand := rfl
@[simp] theorem latchHandled_idleFlag (s : State) : (latchHandled s).idleFlag = s.idleFlag := rfl
@[simp] theorem latchHandled_invalidCommand (s : State) : (latchHandled s).invalidCommand = false := rfl
@[simp] theorem latchHandled_pending (s : State) : (latchHandled s).pending = s.pending := rfl
@[simp] theorem latchHandled_blockAddress (s : State) : (latchHandled s).blockAddress = s.blockAddress := rfl
@[simp] theorem latchHandled_inUse (s : State) : (latchHandled s).inUse = s.inUse := rfl
@[simp] theorem latchHandled_bufPos (s : State) : (latchHandled s).bufPos = s.bufPos := rfl
@[simp] theorem latchHandled_remaining (s : State) : (latchHandled s).remaining = s.remaining := rfl
@[simp] theorem latchHandled_crc (s : State) : (latchHandled s).crc = s.crc := rfl
@[simp] theorem latchHandled_miso (s : State) : (latchHandled s).miso = s.miso := rfl
@[simp] theorem latchHandled_buf (s : State) : (latchHandled s).buf = s.buf := rfl
@[simp] theorem latchHandled_inputs (s : State) : (latchHandled s).inputs = s.inputs := rfl
@[simp] theorem latchHandled_reply (s : State) : (latchHandled s).reply = s.reply := rfl
@[simp] theorem latchHandled_draws (s : State) : (latchHandled s).draws = s.draws := rfl

/-! ### lendBuffer -/

@[simp] theorem lendBuffer_state (bytes : List Byte) (s : State) : (lendBuffer bytes s).state = s.state := rfl
@[simp] theorem lendBuffer_bitcount (bytes : List Byte) (s : State) : (lendBuffer bytes s).bitcount = s.bitcount := rfl
@[simp] theorem lendBuffer_cmd (bytes : List Byte) (s : State) : (lendBuffer bytes s).cmd = s.cmd := rfl
@[simp] theorem lendBuffer_arg (bytes : List Byte) (s : State) : (lendBuffer bytes s).arg = s.arg := rfl
@[simp] theorem lendBuffer_checksum (bytes : List Byte) (s : State) : (lendBuffer bytes s).checksum = s.checksum := rfl
@[simp] theorem lendBuffer_appCommand (bytes : List Byte) (s : State) : (lendBuffer bytes s).appCommand = s.appCommand := rfl
@[simp] theorem lendBuffer_idleFlag (bytes : List Byte) (s : State) : (lendBuffer bytes s).idleFlag = s.idleFlag := rfl
@[simp] theorem lendBuffer_invalidCommand (bytes : List Byte) (s : State) : (lendBuffer bytes s).invalidCommand = s.invalidCommand := rfl
@[simp] theorem lendBuffer_pending (bytes : List Byte) (s : State) : (lendBuffer bytes s).pending = false := rfl
@[simp] theorem lendBuffer_blockAddress (bytes : List Byte) (s : State) : (lendBuffer bytes s).blockAddress = s.blockAddress := rfl
@[simp] theorem lendBuffer_inUse (bytes : List Byte) (s : State) : (lendBuffer bytes s).inUse = true := rfl
@[simp] theorem lendBuffer_bufPos (bytes : List Byte) (s : State) : (lendBuffer bytes s).bufPos = 0#10 := rfl
@[simp] theorem lendBuffer_remaining (bytes : List Byte) (s : State) : (lendBuffer bytes s).remaining = 512#10 := rfl
@[simp] theorem lendBuffer_crc (bytes : List Byte) (s : State) : (lendBuffer bytes s).crc = s.crc := rfl
@[simp] theorem lendBuffer_miso (bytes : List Byte) (s : State) : (lendBuffer bytes s).miso = s.miso := rfl
@[simp] theorem lendBuffer_buf (bytes : List Byte) (s : State) : (lendBuffer bytes s).buf = Memory.ofBytes bytes := rfl
@[simp] theorem lendBuffer_inputs (bytes : List Byte) (s : State) : (lendBuffer bytes s).inputs = s.inputs := rfl
@[simp] theorem lendBuffer_reply (bytes : List Byte) (s : State) : (lendBuffer bytes s).reply = s.reply := rfl
@[simp] theorem lendBuffer_draws (bytes : List Byte) (s : State) : (lendBuffer bytes s).draws = s.draws := rfl

/-! ### releaseBuffer -/

@[simp] theorem releaseBuffer_state (s : State) : (releaseBuffer s).state = s.state := rfl
@[simp] theorem releaseBuffer_bitcount (s : State) : (releaseBuffer s).bitcount = s.bitcount := rfl
@[simp] theorem releaseBuffer_cmd (s : State) : (releaseBuffer s).cmd = s.cmd := rfl
@[simp] theorem releaseBuffer_arg (s : State) : (releaseBuffer s).arg = s.arg := rfl
@[simp] theorem releaseBuffer_checksum (s : State) : (releaseBuffer s).checksum = s.checksum := rfl
@[simp] theorem releaseBuffer_appCommand (s : State) : (releaseBuffer s).appCommand = s.appCommand := rfl
@[simp] theorem releaseBuffer_idleFlag (s : State) : (releaseBuffer s).idleFlag = s.idleFlag := rfl
@[simp] theorem releaseBuffer_invalidCommand (s : State) : (releaseBuffer s).invalidCommand = s.invalidCommand := rfl
@[simp] theorem releaseBuffer_pending (s : State) : (releaseBuffer s).pending = s.pending := rfl
@[simp] theorem releaseBuffer_blockAddress (s : State) : (releaseBuffer s).blockAddress = s.blockAddress := rfl
@[simp] theorem releaseBuffer_inUse (s : State) : (releaseBuffer s).inUse = false := rfl
@[simp] theorem releaseBuffer_bufPos (s : State) : (releaseBuffer s).bufPos = s.bufPos := rfl
@[simp] theorem releaseBuffer_remaining (s : State) : (releaseBuffer s).remaining = s.remaining := rfl
@[simp] theorem releaseBuffer_crc (s : State) : (releaseBuffer s).crc = s.crc := rfl
@[simp] theorem releaseBuffer_miso (s : State) : (releaseBuffer s).miso = s.miso := rfl
@[simp] theorem releaseBuffer_buf (s : State) : (releaseBuffer s).buf = [] := rfl
@[simp] theorem releaseBuffer_inputs (s : State) : (releaseBuffer s).inputs = s.inputs := rfl
@[simp] theorem releaseBuffer_reply (s : State) : (releaseBuffer s).reply = s.reply := rfl
@[simp] theorem releaseBuffer_draws (s : State) : (releaseBuffer s).draws = s.draws := rfl

/-! ### advanceCursor -/

@[simp] theorem advanceCursor_state (byte : Byte) (s : State) : (advanceCursor byte s).state = s.state := rfl
@[simp] theorem advanceCursor_bitcount (byte : Byte) (s : State) : (advanceCursor byte s).bitcount = 0#6 := rfl
@[simp] theorem advanceCursor_cmd (byte : Byte) (s : State) : (advanceCursor byte s).cmd = s.cmd := rfl
@[simp] theorem advanceCursor_arg (byte : Byte) (s : State) : (advanceCursor byte s).arg = s.arg := rfl
@[simp] theorem advanceCursor_checksum (byte : Byte) (s : State) : (advanceCursor byte s).checksum = s.checksum := rfl
@[simp] theorem advanceCursor_appCommand (byte : Byte) (s : State) : (advanceCursor byte s).appCommand = s.appCommand := rfl
@[simp] theorem advanceCursor_idleFlag (byte : Byte) (s : State) : (advanceCursor byte s).idleFlag = s.idleFlag := rfl
@[simp] theorem advanceCursor_invalidCommand (byte : Byte) (s : State) : (advanceCursor byte s).invalidCommand = s.invalidCommand := rfl
@[simp] theorem advanceCursor_pending (byte : Byte) (s : State) : (advanceCursor byte s).pending = s.pending := rfl
@[simp] theorem advanceCursor_blockAddress (byte : Byte) (s : State) : (advanceCursor byte s).blockAddress = s.blockAddress := rfl
@[simp] theorem advanceCursor_inUse (byte : Byte) (s : State) : (advanceCursor byte s).inUse = s.inUse := rfl
@[simp] theorem advanceCursor_bufPos (byte : Byte) (s : State) : (advanceCursor byte s).bufPos = s.bufPos + 1#10 := rfl
@[simp] theorem advanceCursor_remaining (byte : Byte) (s : State) : (advanceCursor byte s).remaining = s.remaining - 1#10 := rfl
@[simp] theorem advanceCursor_crc (byte : Byte) (s : State) : (advanceCursor byte s).crc = crc16Step s.crc byte := rfl
@[simp] theorem advanceCursor_miso (byte : Byte) (s : State) : (advanceCursor byte s).miso = s.miso := rfl
@[simp] theorem advanceCursor_buf (byte : Byte) (s : State) : (advanceCursor byte s).buf = s.buf := rfl
@[simp] theorem advanceCursor_inputs (byte : Byte) (s : State) : (advanceCursor byte s).inputs = s.inputs := rfl
@[simp] theorem advanceCursor_reply (byte : Byte) (s : State) : (advanceCursor byte s).reply = s.reply := rfl
@[simp] theorem advanceCursor_draws (byte : Byte) (s : State) : (advanceCursor byte s).draws = s.draws := rfl

end Sys2Proof.Machine
end

