-- ==== Sys2Proof/Laws/Ops.lean ====
section
/-! SUPPORT. One lemma per shared operation: the selection test, the bit an edge brings, a bit on the wire, going on
after an outcome. -/

namespace Sys2Proof.Machine

/-- R81: the card is addressed when its own select bit is 0, whatever the other lines carry. -/
theorem cardSelected_eq (ctrl : Ctrl) : cardSelected ctrl = selectedBy Config.ssLine ctrl := by
  have hlines : ∀ l : SelectLine,
      ctrl.getLsbD (selectBit l) = (ctrl.extractLsb' 2 4).getLsbD (selectBit l - 2) := by
    intro l; cases l <;> simp [selectBit]
  unfold cardSelected
  split
  · next h => simp [selectedBy, hlines, h]
  · next h =>
    rw [selectedBy, hlines, h]
    cases Config.ssLine <;> decide
  · rfl

@[simp] theorem cardSelected_selectedCtrl (b : Bool) : cardSelected (selectedCtrl b) = true := by
  cases b <;> rfl

@[simp] theorem mosi_selectedCtrl (b : Bool) : mosi (selectedCtrl b) = b := by
  cases b <;> rfl

theorem wireBit_of_lt {n : Nat} (v : BitVec n) (k : BitVec 6) (h : k.toNat < n) :
    wireBit v k = some (v.getMsbD k.toNat) := by
  simp [wireBit, h]

theorem wireBit_eq_none {n : Nat} (v : BitVec n) (k : BitVec 6) : wireBit v k = none ↔ n ≤ k.toNat := by
  simp [wireBit]

@[simp] theorem andThen_next (s : State) (f : State → State) : andThen (.next s) f = .next (f s) := rfl

theorem andThen_eq_next (r : Result) (f : State → State) (t : State) :
    andThen r f = .next t ↔ ∃ u, r = .next u ∧ f u = t := by
  cases r <;> simp [andThen]

/-- A frame's last bit at a selected edge is sampled from bit 15 alone (R30). -/
theorem edge_of_selected (ctrl : Ctrl) (s : State) (h : cardSelected ctrl = true) :
    edge ctrl s = bitTime (mosi ctrl) s := by
  simp [edge, h]

theorem edge_of_deselected (ctrl : Ctrl) (s : State) (h : cardSelected ctrl = false) : edge ctrl s = .next s := by
  simp [edge, h]

/-- The misuse test of `Provide` (R126). -/
theorem provideAccepted_iff (bytes : List Byte) (s : State) :
    provideAccepted bytes s = true ↔ bytes.length = 512 ∧ s.pending = true ∧ s.inUse = false := by
  simp only [provideAccepted, bufferWellFormed, Config.blockSize, Bool.and_eq_true, decide_eq_true_eq,
    Bool.not_eq_true', and_assoc]

end Sys2Proof.Machine
end

