-- ==== Sys2Proof/Laws/Step.lean ====
section
/-! SUPPORT. What a dispatch and a step can do, said once. -/

namespace Sys2Proof.Machine

/-- Everything a dispatch can do (spec/41_command_dispatch.md R93 to R104). -/
theorem exec_cases (i : Instr) (s : State) :
    (i.mode = .cmd ∧ i.number = 0#6 ∧
      exec i s = .next { s with appCommand := false, invalidCommand := false, idleFlag := true }) ∨
    (i.mode = .cmd ∧ (i.number = 8#6 ∨ i.number = 58#6 ∨ (i.number = 16#6 ∧ i.fields.arg = 512#32)) ∧
      exec i s = .next { s with appCommand := false, invalidCommand := false }) ∨
    (i.mode = .cmd ∧ i.number = 17#6 ∧
      exec i s = .next { s with
        appCommand := false
        invalidCommand := false
        blockAddress := blockAddressOf Config.addrWidth i.fields.arg
        pending := true
        crc := Config.crcSeed }) ∨
    (i.mode = .cmd ∧ i.number = 55#6 ∧
      exec i s = .next { s with appCommand := true, invalidCommand := false }) ∨
    (i.mode = .acmd ∧ i.number = 41#6 ∧
      exec i s = .next { s with appCommand := false, invalidCommand := false, idleFlag := false }) ∨
    (tableAccepts i.mode i.number i.fields.arg = false ∧
      exec i s = .next { s with appCommand := false, invalidCommand := true }) := by
  cases i with
  | cmd0 f => exact .inl ⟨rfl, rfl, rfl⟩
  | cmd8 f => exact .inr (.inl ⟨rfl, .inl rfl, rfl⟩)
  | cmd58 f => exact .inr (.inl ⟨rfl, .inr (.inl rfl), rfl⟩)
  | cmd17 f => exact .inr (.inr (.inl ⟨rfl, rfl, rfl⟩))
  | cmd55 f => exact .inr (.inr (.inr (.inl ⟨rfl, rfl, rfl⟩)))
  | acmd41 f => exact .inr (.inr (.inr (.inr (.inl ⟨rfl, rfl, rfl⟩))))
  | cmd16 f =>
    by_cases h : f.arg = 512#32
    · refine .inr (.inl ⟨rfl, .inr (.inr ⟨rfl, h⟩), ?_⟩)
      simp [exec, execCmd16, blockLengthAccepted, h, dispatchHandled, latchHandled, clearAppCommand]
    · refine .inr (.inr (.inr (.inr (.inr ⟨?_, ?_⟩))))
      · simp [tableAccepts, Instr.mode, Instr.number, Instr.fields, h]
      · simp [exec, execCmd16, blockLengthAccepted, h, dispatchRejected, raiseReject, clearAppCommand]
  | _ f => exact .inr (.inr (.inr (.inr (.inr ⟨rfl, rfl⟩))))

/-- A dispatch always answers a next state (R145). -/
theorem exec_isNext (i : Instr) (s : State) : ∃ t, exec i s = .next t := by
  rcases exec_cases i s with ⟨-, -, h⟩ | ⟨-, -, h⟩ | ⟨-, -, h⟩ | ⟨-, -, h⟩ | ⟨-, -, h⟩ | ⟨-, h⟩ <;> exact ⟨_, h⟩

/-- The mode, number and fields of the command a dispatch looks up (R63, R93). -/
theorem dispatchedCommand_spec (b : Bool) (s : State) :
    (dispatchedCommand b s).mode = decodeMode s ∧ (dispatchedCommand b s).number = s.cmd ∧
      (dispatchedCommand b s).fields = frameOperands b s :=
  selectCommand_spec _ _ _

/-- The command looked up is the one the decoder reads from the frame received (R59, R63). -/
theorem decodeFrame_receivedFrame (b : Bool) (s : State) :
    decodeFrame (decodeMode s) (receivedFrame b s) = .ok (dispatchedCommand b s) := by
  rw [decodeFrame_of_wellFormed _ (receivedFrame b s) (wellFormed_append _ _ _ _)]
  simp only [receivedFrame, frameNumber_append, frameFields_append, dispatchedCommand, frameOperands]

theorem step_nil (s : State) (h : s.inputs = []) : step s = .next s := by
  simp [step, h]

theorem step_cons (s : State) (e : Event) (rest : List Event) (h : s.inputs = e :: rest) :
    step s = perform e { s with inputs := rest } := by
  simp [step, h]

/-- A step at a selected edge is one bit-time (R81). -/
theorem step_selected (s : State) (ctrl : Ctrl) (rest : List Event) (h : s.inputs = .edge ctrl :: rest)
    (hsel : cardSelected ctrl = true) : step s = bitTime (mosi ctrl) { s with inputs := rest } := by
  rw [step_cons s _ rest h]; exact edge_of_selected _ _ hsel

/-- A step at a deselected edge consumes the edge and nothing else (R90). -/
theorem step_deselected (s : State) (ctrl : Ctrl) (rest : List Event) (h : s.inputs = .edge ctrl :: rest)
    (hsel : cardSelected ctrl = false) : step s = .next { s with inputs := rest } := by
  rw [step_cons s _ rest h]; exact edge_of_deselected _ _ hsel

/-- Everything `Provide` can do (R125, R126). -/
theorem provide_cases (bytes : List Byte) (s : State) :
    ((bytes.length = 512 ∧ s.pending = true ∧ s.inUse = false) ∧
      provide bytes s = { lendBuffer bytes s with reply := .provide true }) ∨
    (¬(bytes.length = 512 ∧ s.pending = true ∧ s.inUse = false) ∧
      provide bytes s = { s with reply := .provide false }) := by
  by_cases h : provideAccepted bytes s = true
  · exact .inl ⟨(provideAccepted_iff bytes s).1 h, by simp [provide, h]⟩
  · exact .inr ⟨fun hc => h ((provideAccepted_iff bytes s).2 hc), by simp [provide, h]⟩

/-- Everything the last bit-time of a frame can do: run the command decoded and begin the response (R86, R93). -/
theorem recvChecksumStep_dispatch (b : Bool) (s : State) (h : s.bitcount = 7#6) :
    recvChecksumStep b s = andThen (exec (dispatchedCommand b s) s) (enter .sendResponse) := by
  simp [recvChecksumStep, h]

/-- The byte SendData sends (R117), and the two stops it has where there is no bit to send. -/
theorem sendDataStep_cases (s : State) :
    (s.buf.read s.bufPos.toNat = none ∧ sendDataStep s = .fault .noBufferByte) ∨
    (8 ≤ s.bitcount.toNat ∧ sendDataStep s = .fault .noWireBit) ∨
    (∃ byte, s.buf.read s.bufPos.toNat = some byte ∧ s.bitcount.toNat < 7 ∧
      sendDataStep s = .next (countBit (drive (byte.getMsbD s.bitcount.toNat) s))) ∨
    (∃ byte, s.buf.read s.bufPos.toNat = some byte ∧ s.bitcount = 7#6 ∧
      sendDataStep s = .next
        (if s.remaining - 1#10 = 0#10 then
          { advanceCursor byte (drive (byte.getMsbD 7) s) with state := .sendCrc }
        else advanceCursor byte (drive (byte.getMsbD 7) s))) := by
  cases hr : s.buf.read s.bufPos.toNat with
  | none => exact .inl ⟨rfl, by simp [sendDataStep, hr]⟩
  | some byte =>
    by_cases h8 : 8 ≤ s.bitcount.toNat
    · exact .inr (.inl ⟨h8, by simp [sendDataStep, hr, (wireBit_eq_none byte s.bitcount).2 h8]⟩)
    · have hw := wireBit_of_lt byte s.bitcount (by omega)
      by_cases h7 : s.bitcount = 7#6
      · refine .inr (.inr (.inr ⟨byte, rfl, h7, ?_⟩))
        have hw7 : wireBit byte 7#6 = some (byte.getMsbD 7) := by simpa [h7] using hw
        simp [sendDataStep, hr, hw7, h7, advanceCursor, drive, countBit]
      · have hlt : s.bitcount.toNat < 7 := by
          have : s.bitcount.toNat ≠ 7 := fun h => h7 (BitVec.eq_of_toNat_eq (by simpa using h))
          omega
        have hne : ¬s.bitcount + 1#6 = 8#6 := by bv_omega
        refine .inr (.inr (.inl ⟨byte, rfl, hlt, ?_⟩))
        simp [sendDataStep, hr, hw, hne]

/-- A step that goes on: nothing is queued and nothing happens, or the oldest operation is performed. -/
theorem step_eq_next {s t : State} (ht : step s = .next t) :
    (s.inputs = [] ∧ t = s) ∨
      ∃ e rest, s.inputs = e :: rest ∧ perform e { s with inputs := rest } = .next t := by
  cases hi : s.inputs with
  | nil => rw [step_nil s hi] at ht; cases ht; exact .inl ⟨rfl, rfl⟩
  | cons e rest => rw [step_cons s e rest hi] at ht; exact .inr ⟨e, rest, rfl, ht⟩

/-- The last bit-time of a frame that goes on: the command's effect, then the response begins (R86). -/
theorem bitTime_dispatch {b : Bool} {s t : State} (hst : s.state = .recvChecksum) (hb : s.bitcount = 7#6)
    (ht : bitTime b s = .next t) :
    ∃ u, exec (dispatchedCommand b s) s = .next u ∧ t = enter .sendResponse u := by
  simp only [bitTime, hst] at ht
  rw [recvChecksumStep_dispatch _ _ hb] at ht
  obtain ⟨u, hu, rfl⟩ := (andThen_eq_next _ _ _).1 ht
  exact ⟨u, hu, rfl⟩

/-- Everything a bit-time can do to the registers outside the sequencer: it dispatches, or it leaves the flags and the
request alone, touches `crc` only at the end of a data byte, the borrow only at the last CRC bit, and `miso` not at all in
a receive state. -/
theorem bitTime_cases {b : Bool} {s t : State} (ht : bitTime b s = .next t) :
    (s.state = .recvChecksum ∧ s.bitcount = 7#6 ∧
      ∃ u, exec (dispatchedCommand b s) s = .next u ∧ t = enter .sendResponse u) ∨
    (t.appCommand = s.appCommand ∧ t.idleFlag = s.idleFlag ∧ t.invalidCommand = s.invalidCommand ∧
      t.pending = s.pending ∧ t.blockAddress = s.blockAddress ∧ t.inputs = s.inputs ∧ t.reply = s.reply ∧
      t.draws = s.draws ∧
      (t.crc = s.crc ∨ (s.state = .sendData ∧ s.bitcount = 7#6 ∧
        ∃ byte, s.buf.read s.bufPos.toNat = some byte ∧ t.crc = crc16Step s.crc byte)) ∧
      ((t.inUse = s.inUse ∧ t.buf = s.buf) ∨
        (s.state = .sendCrc ∧ s.bitcount = 15#6 ∧ t.inUse = false ∧ t.buf = [] ∧ t.state = .idle ∧
          t.miso = s.crc.getLsbD 0)) ∧
      ((s.state = .recvBit1 ∨ s.state = .recvCmdNr ∨ s.state = .recvArg ∨ s.state = .recvChecksum) →
        t.miso = s.miso)) := by
  cases hst : s.state
  case recvChecksum =>
    by_cases hb : s.bitcount = 7#6
    · exact .inl ⟨rfl, hb, bitTime_dispatch hst hb ht⟩
    · right
      have h8 : ¬ (countBit s).bitcount = 8#6 := by simp only [countBit_bitcount]; bv_omega
      simp only [bitTime, hst, recvChecksumStep, h8, if_false] at ht
      split at ht <;> cases ht <;> simp
  case sendData =>
    right
    simp only [bitTime, hst] at ht
    rcases sendDataStep_cases s with ⟨-, e⟩ | ⟨-, e⟩ | ⟨byte, -, -, e⟩ | ⟨byte, hr, hb, e⟩ <;> rw [e] at ht <;> cases ht
    · simp
    · split <;> simp [hb, hr]
  case sendCrc =>
    right
    simp only [bitTime, hst, sendCrcStep] at ht
    split at ht
    · cases ht
    · next b' hw =>
      cases ht
      by_cases h15 : s.bitcount = 15#6
      · have hb' := wireBit_of_lt s.crc s.bitcount (by rw [h15]; decide)
        rw [hw, h15] at hb'
        simp [BitVec.getMsbD] at hb'
        simp [h15, hb']
      · have : ¬ s.bitcount + 1#6 = 16#6 := by bv_omega
        simp [this]
  case sendIfCond =>
    right
    simp only [bitTime, hst, sendIfCondStep] at ht
    split at ht
    · cases ht
    · cases ht; split <;> simp
  all_goals
    right
    simp only [bitTime, hst, idleStep, recvBit1Step, recvCmdNrStep, recvArgStep, sendResponseStep, waitReadStep,
      sendOcrStep, sendStartStep] at ht
    (try split at ht) <;> (try split at ht) <;> cases ht <;> simp

/-- A run of `m + n` steps is a run of `m` followed by a run of `n` (00_scope.md R8). -/
theorem trace_add (m n : Nat) (s : State) :
    trace (m + n) s = match trace m s with
      | some (bits, t) =>
        match trace n t with
        | some (more, u) => some (bits ++ more, u)
        | none => none
      | none => none := by
  induction m generalizing s with
  | zero => simp only [Nat.zero_add, trace]; cases trace n s <;> rfl
  | succ m ih =>
    rw [Nat.succ_add]
    simp only [trace]
    cases step s with
    | next t =>
      simp only [ih]
      cases trace m t with
      | none => rfl
      | some p => simp only; cases trace n p.2 <;> rfl
    | fault e => rfl
    | refused e => rfl

end Sys2Proof.Machine
end

