-- ==== Sys2Proof/Tests/Slice0.lean ====
section
/-! SUPPORT. Tests, each one step on a small state, and for every statement with hypotheses a concrete state and operands
that meet all of them. Expected results come from spec/: the encodings of spec/30_encoding.md, the listing of
spec/44_crc16.md R134, the vectors of spec/95_test_vectors.md, or the rule named. -/

namespace Sys2Proof.Tests

open Sys2Proof.Machine

/-! ### Well-formedness: ill-formed terms that the checks refuse -/

/-- R59: frame bit 47 is 1. -/
theorem test_frame_start_bit_refused :
    Frame.startBitOk 0xC00000000095#48 = false ∧ Frame.wellFormed 0xC00000000095#48 = false ∧
      decodeFrame .cmd 0xC00000000095#48 = .rejected .startBitNotZero := by decide

/-- R59: frame bit 46 is 0. -/
theorem test_frame_second_bit_refused :
    Frame.secondBitOk 0x000000000095#48 = false ∧ Frame.wellFormed 0x000000000095#48 = false ∧
      decodeFrame .acmd 0x000000000095#48 = .rejected .secondBitNotOne := by decide

/-- R59: five bytes are no frame. -/
theorem test_short_bytes_refused :
    decode .cmd [] = .rejected .frameTooShort ∧
      decode .cmd [0x40, 0x00, 0x00, 0x00, 0x00] = .rejected .frameTooShort := by decide

/-- R63: a command of the other mode. -/
theorem test_command_of_other_mode_refused (f : CmdFields) :
    Instr.wellFormedIn .acmd (.cmd17 f) = false ∧ Instr.wellFormedIn .cmd (.acmd41 f) = false ∧
      Instr.wellFormedIn .cmd (.cmd17 f) = true ∧ Instr.wellFormedIn .acmd (.acmd41 f) = true := ⟨rfl, rfl, rfl, rfl⟩

/-- R125, R126: a buffer of 511 or 513 bytes (H-5). -/
theorem test_buffer_length_refused :
    bufferWellFormed (List.replicate 511 0) = false ∧ bufferWellFormed (List.replicate 513 0) = false ∧
      bufferWellFormed (List.replicate 512 0) = true := by
  simp only [bufferWellFormed, List.length_replicate]; decide

/-! ### Decoding: every command's frame written out from R59, R61, R64 -/

theorem test_decode_cmd0_to_cmd7 :
    [0x400000000000#48, 0x41FFFFFFFF56#48, 0x4280000001AB#48, 0x4312345678FF#48,
     0x440000020080#48, 0x45DEADBEEF7E#48, 0x460000FF0095#48, 0x477FFFFFFE03#48].map (decodeFrame .cmd) =
      [.ok (.cmd0 { arg := 0x00000000, checksum := 0x00, discarded := false }),
       .ok (.cmd1 { arg := 0xFFFFFFFF, checksum := 0x2B, discarded := false }),
       .ok (.cmd2 { arg := 0x80000001, checksum := 0x55, discarded := true }),
       .ok (.cmd3 { arg := 0x12345678, checksum := 0x7F, discarded := true }),
       .ok (.cmd4 { arg := 0x00000200, checksum := 0x40, discarded := false }),
       .ok (.cmd5 { arg := 0xDEADBEEF, checksum := 0x3F, discarded := false }),
       .ok (.cmd6 { arg := 0x0000FF00, checksum := 0x4A, discarded := true }),
       .ok (.cmd7 { arg := 0x7FFFFFFE, checksum := 0x01, discarded := true })] := by decide

theorem test_decode_cmd8_to_cmd15 :
    [0x480000000000#48, 0x49FFFFFFFF56#48, 0x4A80000001AB#48, 0x4B12345678FF#48,
     0x4C0000020080#48, 0x4DDEADBEEF7E#48, 0x4E0000FF0095#48, 0x4F7FFFFFFE03#48].map (decodeFrame .cmd) =
      [.ok (.cmd8 { arg := 0x00000000, checksum := 0x00, discarded := false }),
       .ok (.cmd9 { arg := 0xFFFFFFFF, checksum := 0x2B, discarded := false }),
       .ok (.cmd10 { arg := 0x80000001, checksum := 0x55, discarded := true }),
       .ok (.cmd11 { arg := 0x12345678, checksum := 0x7F, discarded := true }),
       .ok (.cmd12 { arg := 0x00000200, checksum := 0x40, discarded := false }),
       .ok (.cmd13 { arg := 0xDEADBEEF, checksum := 0x3F, discarded := false }),
       .ok (.cmd14 { arg := 0x0000FF00, checksum := 0x4A, discarded := true }),
       .ok (.cmd15 { arg := 0x7FFFFFFE, checksum := 0x01, discarded := true })] := by decide

theorem test_decode_cmd16_to_cmd23 :
    [0x500000000000#48, 0x51FFFFFFFF56#48, 0x5280000001AB#48, 0x5312345678FF#48,
     0x540000020080#48, 0x55DEADBEEF7E#48, 0x560000FF0095#48, 0x577FFFFFFE03#48].map (decodeFrame .cmd) =
      [.ok (.cmd16 { arg := 0x00000000, checksum := 0x00, discarded := false }),
       .ok (.cmd17 { arg := 0xFFFFFFFF, checksum := 0x2B, discarded := false }),
       .ok (.cmd18 { arg := 0x80000001, checksum := 0x55, discarded := true }),
       .ok (.cmd19 { arg := 0x12345678, checksum := 0x7F, discarded := true }),
       .ok (.cmd20 { arg := 0x00000200, checksum := 0x40, discarded := false }),
       .ok (.cmd21 { arg := 0xDEADBEEF, checksum := 0x3F, discarded := false }),
       .ok (.cmd22 { arg := 0x0000FF00, checksum := 0x4A, discarded := true }),
       .ok (.cmd23 { arg := 0x7FFFFFFE, checksum := 0x01, discarded := true })] := by decide

theorem test_decode_cmd24_to_cmd31 :
    [0x580000000000#48, 0x59FFFFFFFF56#48, 0x5A80000001AB#48, 0x5B12345678FF#48,
     0x5C0000020080#48, 0x5DDEADBEEF7E#48, 0x5E0000FF0095#48, 0x5F7FFFFFFE03#48].map (decodeFrame .cmd) =
      [.ok (.cmd24 { arg := 0x00000000, checksum := 0x00, discarded := false }),
       .ok (.cmd25 { arg := 0xFFFFFFFF, checksum := 0x2B, discarded := false }),
       .ok (.cmd26 { arg := 0x80000001, checksum := 0x55, discarded := true }),
       .ok (.cmd27 { arg := 0x12345678, checksum := 0x7F, discarded := true }),
       .ok (.cmd28 { arg := 0x00000200, checksum := 0x40, discarded := false }),
       .ok (.cmd29 { arg := 0xDEADBEEF, checksum := 0x3F, discarded := false }),
       .ok (.cmd30 { arg := 0x0000FF00, checksum := 0x4A, discarded := true }),
       .ok (.cmd31 { arg := 0x7FFFFFFE, checksum := 0x01, discarded := true })] := by decide

theorem test_decode_cmd32_to_cmd39 :
    [0x600000000000#48, 0x61FFFFFFFF56#48, 0x6280000001AB#48, 0x6312345678FF#48,
     0x640000020080#48, 0x65DEADBEEF7E#48, 0x660000FF0095#48, 0x677FFFFFFE03#48].map (decodeFrame .cmd) =
      [.ok (.cmd32 { arg := 0x00000000, checksum := 0x00, discarded := false }),
       .ok (.cmd33 { arg := 0xFFFFFFFF, checksum := 0x2B, discarded := false }),
       .ok (.cmd34 { arg := 0x80000001, checksum := 0x55, discarded := true }),
       .ok (.cmd35 { arg := 0x12345678, checksum := 0x7F, discarded := true }),
       .ok (.cmd36 { arg := 0x00000200, checksum := 0x40, discarded := false }),
       .ok (.cmd37 { arg := 0xDEADBEEF, checksum := 0x3F, discarded := false }),
       .ok (.cmd38 { arg := 0x0000FF00, checksum := 0x4A, discarded := true }),
       .ok (.cmd39 { arg := 0x7FFFFFFE, checksum := 0x01, discarded := true })] := by decide

theorem test_decode_cmd40_to_cmd47 :
    [0x680000000000#48, 0x69FFFFFFFF56#48, 0x6A80000001AB#48, 0x6B12345678FF#48,
     0x6C0000020080#48, 0x6DDEADBEEF7E#48, 0x6E0000FF0095#48, 0x6F7FFFFFFE03#48].map (decodeFrame .cmd) =
      [.ok (.cmd40 { arg := 0x00000000, checksum := 0x00, discarded := false }),
       .ok (.cmd41 { arg := 0xFFFFFFFF, checksum := 0x2B, discarded := false }),
       .ok (.cmd42 { arg := 0x80000001, checksum := 0x55, discarded := true }),
       .ok (.cmd43 { arg := 0x12345678, checksum := 0x7F, discarded := true }),
       .ok (.cmd44 { arg := 0x00000200, checksum := 0x40, discarded := false }),
       .ok (.cmd45 { arg := 0xDEADBEEF, checksum := 0x3F, discarded := false }),
       .ok (.cmd46 { arg := 0x0000FF00, checksum := 0x4A, discarded := true }),
       .ok (.cmd47 { arg := 0x7FFFFFFE, checksum := 0x01, discarded := true })] := by decide

theorem test_decode_cmd48_to_cmd55 :
    [0x700000000000#48, 0x71FFFFFFFF56#48, 0x7280000001AB#48, 0x7312345678FF#48,
     0x740000020080#48, 0x75DEADBEEF7E#48, 0x760000FF0095#48, 0x777FFFFFFE03#48].map (decodeFrame .cmd) =
      [.ok (.cmd48 { arg := 0x00000000, checksum := 0x00, discarded := false }),
       .ok (.cmd49 { arg := 0xFFFFFFFF, checksum := 0x2B, discarded := false }),
       .ok (.cmd50 { arg := 0x80000001, checksum := 0x55, discarded := true }),
       .ok (.cmd51 { arg := 0x12345678, checksum := 0x7F, discarded := true }),
       .ok (.cmd52 { arg := 0x00000200, checksum := 0x40, discarded := false }),
       .ok (.cmd53 { arg := 0xDEADBEEF, checksum := 0x3F, discarded := false }),
       .ok (.cmd54 { arg := 0x0000FF00, checksum := 0x4A, discarded := true }),
       .ok (.cmd55 { arg := 0x7FFFFFFE, checksum := 0x01, discarded := true })] := by decide

theorem test_decode_cmd56_to_cmd63 :
    [0x780000000000#48, 0x79FFFFFFFF56#48, 0x7A80000001AB#48, 0x7B12345678FF#48,
     0x7C0000020080#48, 0x7DDEADBEEF7E#48, 0x7E0000FF0095#48, 0x7F7FFFFFFE03#48].map (decodeFrame .cmd) =
      [.ok (.cmd56 { arg := 0x00000000, checksum := 0x00, discarded := false }),
       .ok (.cmd57 { arg := 0xFFFFFFFF, checksum := 0x2B, discarded := false }),
       .ok (.cmd58 { arg := 0x80000001, checksum := 0x55, discarded := true }),
       .ok (.cmd59 { arg := 0x12345678, checksum := 0x7F, discarded := true }),
       .ok (.cmd60 { arg := 0x00000200, checksum := 0x40, discarded := false }),
       .ok (.cmd61 { arg := 0xDEADBEEF, checksum := 0x3F, discarded := false }),
       .ok (.cmd62 { arg := 0x0000FF00, checksum := 0x4A, discarded := true }),
       .ok (.cmd63 { arg := 0x7FFFFFFE, checksum := 0x01, discarded := true })] := by decide

theorem test_decode_acmd0_to_acmd7 :
    [0x40FFFFFFFFFF#48, 0x418000000181#48, 0x42123456787E#48, 0x430000020094#48,
     0x44DEADBEEF03#48, 0x450000FF0001#48, 0x467FFFFFFE56#48, 0x4700000000AA#48].map (decodeFrame .acmd) =
      [.ok (.acmd0 { arg := 0xFFFFFFFF, checksum := 0x7F, discarded := true }),
       .ok (.acmd1 { arg := 0x80000001, checksum := 0x40, discarded := true }),
       .ok (.acmd2 { arg := 0x12345678, checksum := 0x3F, discarded := false }),
       .ok (.acmd3 { arg := 0x00000200, checksum := 0x4A, discarded := false }),
       .ok (.acmd4 { arg := 0xDEADBEEF, checksum := 0x01, discarded := true }),
       .ok (.acmd5 { arg := 0x0000FF00, checksum := 0x00, discarded := true }),
       .ok (.acmd6 { arg := 0x7FFFFFFE, checksum := 0x2B, discarded := false }),
       .ok (.acmd7 { arg := 0x00000000, checksum := 0x55, discarded := false })] := by decide

theorem test_decode_acmd8_to_acmd15 :
    [0x48FFFFFFFFFF#48, 0x498000000181#48, 0x4A123456787E#48, 0x4B0000020094#48,
     0x4CDEADBEEF03#48, 0x4D0000FF0001#48, 0x4E7FFFFFFE56#48, 0x4F00000000AA#48].map (decodeFrame .acmd) =
      [.ok (.acmd8 { arg := 0xFFFFFFFF, checksum := 0x7F, discarded := true }),
       .ok (.acmd9 { arg := 0x80000001, checksum := 0x40, discarded := true }),
       .ok (.acmd10 { arg := 0x12345678, checksum := 0x3F, discarded := false }),
       .ok (.acmd11 { arg := 0x00000200, checksum := 0x4A, discarded := false }),
       .ok (.acmd12 { arg := 0xDEADBEEF, checksum := 0x01, discarded := true }),
       .ok (.acmd13 { arg := 0x0000FF00, checksum := 0x00, discarded := true }),
       .ok (.acmd14 { arg := 0x7FFFFFFE, checksum := 0x2B, discarded := false }),
       .ok (.acmd15 { arg := 0x00000000, checksum := 0x55, discarded := false })] := by decide

theorem test_decode_acmd16_to_acmd23 :
    [0x50FFFFFFFFFF#48, 0x518000000181#48, 0x52123456787E#48, 0x530000020094#48,
     0x54DEADBEEF03#48, 0x550000FF0001#48, 0x567FFFFFFE56#48, 0x5700000000AA#48].map (decodeFrame .acmd) =
      [.ok (.acmd16 { arg := 0xFFFFFFFF, checksum := 0x7F, discarded := true }),
       .ok (.acmd17 { arg := 0x80000001, checksum := 0x40, discarded := true }),
       .ok (.acmd18 { arg := 0x12345678, checksum := 0x3F, discarded := false }),
       .ok (.acmd19 { arg := 0x00000200, checksum := 0x4A, discarded := false }),
       .ok (.acmd20 { arg := 0xDEADBEEF, checksum := 0x01, discarded := true }),
       .ok (.acmd21 { arg := 0x0000FF00, checksum := 0x00, discarded := true }),
       .ok (.acmd22 { arg := 0x7FFFFFFE, checksum := 0x2B, discarded := false }),
       .ok (.acmd23 { arg := 0x00000000, checksum := 0x55, discarded := false })] := by decide

theorem test_decode_acmd24_to_acmd31 :
    [0x58FFFFFFFFFF#48, 0x598000000181#48, 0x5A123456787E#48, 0x5B0000020094#48,
     0x5CDEADBEEF03#48, 0x5D0000FF0001#48, 0x5E7FFFFFFE56#48, 0x5F00000000AA#48].map (decodeFrame .acmd) =
      [.ok (.acmd24 { arg := 0xFFFFFFFF, checksum := 0x7F, discarded := true }),
       .ok (.acmd25 { arg := 0x80000001, checksum := 0x40, discarded := true }),
       .ok (.acmd26 { arg := 0x12345678, checksum := 0x3F, discarded := false }),
       .ok (.acmd27 { arg := 0x00000200, checksum := 0x4A, discarded := false }),
       .ok (.acmd28 { arg := 0xDEADBEEF, checksum := 0x01, discarded := true }),
       .ok (.acmd29 { arg := 0x0000FF00, checksum := 0x00, discarded := true }),
       .ok (.acmd30 { arg := 0x7FFFFFFE, checksum := 0x2B, discarded := false }),
       .ok (.acmd31 { arg := 0x00000000, checksum := 0x55, discarded := false })] := by decide

theorem test_decode_acmd32_to_acmd39 :
    [0x60FFFFFFFFFF#48, 0x618000000181#48, 0x62123456787E#48, 0x630000020094#48,
     0x64DEADBEEF03#48, 0x650000FF0001#48, 0x667FFFFFFE56#48, 0x6700000000AA#48].map (decodeFrame .acmd) =
      [.ok (.acmd32 { arg := 0xFFFFFFFF, checksum := 0x7F, discarded := true }),
       .ok (.acmd33 { arg := 0x80000001, checksum := 0x40, discarded := true }),
       .ok (.acmd34 { arg := 0x12345678, checksum := 0x3F, discarded := false }),
       .ok (.acmd35 { arg := 0x00000200, checksum := 0x4A, discarded := false }),
       .ok (.acmd36 { arg := 0xDEADBEEF, checksum := 0x01, discarded := true }),
       .ok (.acmd37 { arg := 0x0000FF00, checksum := 0x00, discarded := true }),
       .ok (.acmd38 { arg := 0x7FFFFFFE, checksum := 0x2B, discarded := false }),
       .ok (.acmd39 { arg := 0x00000000, checksum := 0x55, discarded := false })] := by decide

theorem test_decode_acmd40_to_acmd47 :
    [0x68FFFFFFFFFF#48, 0x698000000181#48, 0x6A123456787E#48, 0x6B0000020094#48,
     0x6CDEADBEEF03#48, 0x6D0000FF0001#48, 0x6E7FFFFFFE56#48, 0x6F00000000AA#48].map (decodeFrame .acmd) =
      [.ok (.acmd40 { arg := 0xFFFFFFFF, checksum := 0x7F, discarded := true }),
       .ok (.acmd41 { arg := 0x80000001, checksum := 0x40, discarded := true }),
       .ok (.acmd42 { arg := 0x12345678, checksum := 0x3F, discarded := false }),
       .ok (.acmd43 { arg := 0x00000200, checksum := 0x4A, discarded := false }),
       .ok (.acmd44 { arg := 0xDEADBEEF, checksum := 0x01, discarded := true }),
       .ok (.acmd45 { arg := 0x0000FF00, checksum := 0x00, discarded := true }),
       .ok (.acmd46 { arg := 0x7FFFFFFE, checksum := 0x2B, discarded := false }),
       .ok (.acmd47 { arg := 0x00000000, checksum := 0x55, discarded := false })] := by decide

theorem test_decode_acmd48_to_acmd55 :
    [0x70FFFFFFFFFF#48, 0x718000000181#48, 0x72123456787E#48, 0x730000020094#48,
     0x74DEADBEEF03#48, 0x750000FF0001#48, 0x767FFFFFFE56#48, 0x7700000000AA#48].map (decodeFrame .acmd) =
      [.ok (.acmd48 { arg := 0xFFFFFFFF, checksum := 0x7F, discarded := true }),
       .ok (.acmd49 { arg := 0x80000001, checksum := 0x40, discarded := true }),
       .ok (.acmd50 { arg := 0x12345678, checksum := 0x3F, discarded := false }),
       .ok (.acmd51 { arg := 0x00000200, checksum := 0x4A, discarded := false }),
       .ok (.acmd52 { arg := 0xDEADBEEF, checksum := 0x01, discarded := true }),
       .ok (.acmd53 { arg := 0x0000FF00, checksum := 0x00, discarded := true }),
       .ok (.acmd54 { arg := 0x7FFFFFFE, checksum := 0x2B, discarded := false }),
       .ok (.acmd55 { arg := 0x00000000, checksum := 0x55, discarded := false })] := by decide

theorem test_decode_acmd56_to_acmd63 :
    [0x78FFFFFFFFFF#48, 0x798000000181#48, 0x7A123456787E#48, 0x7B0000020094#48,
     0x7CDEADBEEF03#48, 0x7D0000FF0001#48, 0x7E7FFFFFFE56#48, 0x7F00000000AA#48].map (decodeFrame .acmd) =
      [.ok (.acmd56 { arg := 0xFFFFFFFF, checksum := 0x7F, discarded := true }),
       .ok (.acmd57 { arg := 0x80000001, checksum := 0x40, discarded := true }),
       .ok (.acmd58 { arg := 0x12345678, checksum := 0x3F, discarded := false }),
       .ok (.acmd59 { arg := 0x00000200, checksum := 0x4A, discarded := false }),
       .ok (.acmd60 { arg := 0xDEADBEEF, checksum := 0x01, discarded := true }),
       .ok (.acmd61 { arg := 0x0000FF00, checksum := 0x00, discarded := true }),
       .ok (.acmd62 { arg := 0x7FFFFFFE, checksum := 0x2B, discarded := false }),
       .ok (.acmd63 { arg := 0x00000000, checksum := 0x55, discarded := false })] := by decide

/-- R59, bit by bit: 0 1, 010001, the argument 2, 0111000, 1 (program P2). -/
theorem test_bits_cmd17 :
    decodeFrame .cmd 0b010100010000000000000000000000000000001001110001#48 =
      .ok (.cmd17 { arg := 0x00000002, checksum := 0x38, discarded := true }) := by decide

/-- R59, bit by bit: 0 1, 010000, the argument 512, 0001010, 1 (V-41). -/
theorem test_bits_cmd16 :
    decodeFrame .cmd 0b010100000000000000000000000000100000000000010101#48 =
      .ok (.cmd16 { arg := 0x00000200, checksum := 0x0A, discarded := true }) := by decide

/-- R59, bit by bit: 0 1, 101001, bit 30 of the argument, 0111011, 1 (V-41). -/
theorem test_bits_acmd41 :
    decodeFrame .acmd 0b011010010100000000000000000000000000000001110111#48 =
      .ok (.acmd41 { arg := 0x40000000, checksum := 0x3B, discarded := true }) := by decide

/-- R59, bit by bit: an illegal number in CMD mode, all ones behind the framing bits (V-41). -/
theorem test_bits_cmd63 :
    decodeFrame .cmd 0b011111111111111111111111111111111111111111111111#48 =
      .ok (.cmd63 { arg := 0xFFFFFFFF, checksum := 0x7F, discarded := true }) := by decide

/-- R59, bit by bit: an illegal number in ACMD mode (V-41). -/
theorem test_bits_acmd55 :
    decodeFrame .acmd 0b011101110000000000000000000000000000000001100101#48 =
      .ok (.acmd55 { arg := 0x00000000, checksum := 0x32, discarded := true }) := by decide

/-- R73, R162: the opcode table's words are read in the mode after reset. -/
theorem test_table_words :
    decodeTableWord 48 0x400000000000 = some (.cmd0 { arg := 0, checksum := 0, discarded := false }) ∧
    decodeTableWord 48 0x7F0000000000 = some (.cmd63 { arg := 0, checksum := 0, discarded := false }) ∧
    decodeTableWord 48 0x000000000000 = none := by decide

/-! ### Dispatch: one step on the frame's last bit (V-41) -/

/-- A state whose registers all have a value, but for the block address. -/
def base : State :=
  { State.reset with
    cmd := 0, arg := 0, checksum := 0, bufPos := 0, remaining := 0, crc := 0xFFFF, miso := false, idleFlag := false }

/-- Idle with the given `idleFlag` and `appCommand`. -/
def idle (i a : Bool) : State := { base with idleFlag := i, appCommand := a }

/-- What the step of a frame's last bit leaves: `appCommand`, `idleFlag`, `invalidCommand`, the response byte, the tail. -/
def dispatched (i a : Bool) (w : Nat) : Option ((Bool × Bool × Bool) × Byte × CardState) :=
  match step ((idle i a).withFetchWord 48 w) with
  | .next t =>
    if t.state = .sendResponse ∧ t.bitcount = 0 then
      some ((t.appCommand, t.idleFlag, t.invalidCommand), responseByte t, tail t)
    else none
  | _ => none

/-- The frame registers after the same step. -/
def frameRegisters (w : Nat) : Option (BitVec 6 × BitVec 32 × BitVec 7) :=
  match step ((idle false false).withFetchWord 48 w) with
  | .next t => some (t.cmd, t.arg, t.checksum)
  | _ => none

theorem test_dispatch_cmd0_not_idle :
    dispatched false false 0x400000000095 = some ((false, true, false), 0x01, .idle) := by decide

theorem test_dispatch_cmd0_idle :
    dispatched true false 0x400000000095 = some ((false, true, false), 0x01, .idle) := by decide

theorem test_dispatch_cmd8_idle :
    dispatched true false 0x48000001AA87 = some ((false, true, false), 0x01, .sendIfCond) := by decide

theorem test_dispatch_cmd8_not_idle :
    dispatched false false 0x48FFFFFF55FF = some ((false, false, false), 0x00, .sendIfCond) := by decide

theorem test_dispatch_cmd16_512 :
    dispatched false false 0x500000020015 = some ((false, false, false), 0x00, .idle) := by decide

theorem test_dispatch_cmd16_all_bits_compared :
    dispatched false false 0x5000010200FF = some ((false, false, true), 0x04, .idle) := by decide

theorem test_dispatch_cmd55_idle :
    dispatched true false 0x770000000065 = some ((true, true, false), 0x01, .idle) := by decide

theorem test_dispatch_cmd55_argument_ignored :
    dispatched false false 0x77DEADBEEF01 = some ((true, false, false), 0x00, .idle) := by decide

theorem test_dispatch_cmd58 :
    dispatched true false 0x7A00000000FD = some ((false, true, false), 0x01, .sendOcr) := by decide

theorem test_dispatch_acmd41 :
    dispatched true true 0x694000000077 = some ((false, false, false), 0x00, .idle) := by decide

theorem test_dispatch_acmd41_not_idle :
    dispatched false true 0x6900000000FF = some ((false, false, false), 0x00, .idle) := by decide

theorem test_dispatch_cmd41 :
    dispatched true false 0x694000000077 = some ((false, true, true), 0x05, .idle) := by decide

theorem test_dispatch_cmd1 :
    dispatched true false 0x4100000000FF = some ((false, true, true), 0x05, .idle) := by decide

theorem test_dispatch_cmd12 :
    dispatched false false 0x4C00000000FF = some ((false, false, true), 0x04, .idle) := by decide

theorem test_dispatch_cmd63 :
    dispatched false false 0x7FFFFFFFFFFF = some ((false, false, true), 0x04, .idle) := by decide

theorem test_dispatch_acmd0 :
    dispatched false true 0x400000000095 = some ((false, false, true), 0x04, .idle) := by decide

theorem test_dispatch_acmd8 :
    dispatched false true 0x48000001AA87 = some ((false, false, true), 0x04, .idle) := by decide

theorem test_dispatch_acmd16 :
    dispatched false true 0x500000020015 = some ((false, false, true), 0x04, .idle) := by decide

theorem test_dispatch_acmd17 :
    dispatched false true 0x5100000000FF = some ((false, false, true), 0x04, .idle) := by decide

theorem test_dispatch_acmd55 :
    dispatched true true 0x770000000065 = some ((false, true, true), 0x05, .idle) := by decide

theorem test_dispatch_acmd58 :
    dispatched false true 0x7A00000000FD = some ((false, false, true), 0x04, .idle) := by decide

theorem test_dispatch_acmd63 :
    dispatched true true 0x7FFFFFFFFFFF = some ((false, true, true), 0x05, .idle) := by decide

/-- V-41: 511, 513 and 0 are rejected. -/
theorem test_dispatch_cmd16_rejected :
    dispatched false false 0x50000001FFFF = some ((false, false, true), 0x04, .idle) ∧
    dispatched false false 0x5000000201FF = some ((false, false, true), 0x04, .idle) ∧
    dispatched true false 0x5000000000FF = some ((false, true, true), 0x05, .idle) := by decide

/-- V-41: number, argument and the seven stored checksum bits. -/
theorem test_frame_registers :
    frameRegisters 0x48000001AA87 = some (8, 0x1AA, 0x43) ∧
    frameRegisters 0x77DEADBEEF01 = some (55, 0xDEADBEEF, 0x00) ∧
    frameRegisters 0x400000000094 = some (0, 0, 0x4A) := by decide

/-- R103: all 58 illegal numbers in CMD mode. -/
theorem test_every_illegal_cmd_rejected :
    ((List.range 64).filter (fun n => n ∉ [0, 8, 16, 17, 55, 58])).all (fun n =>
      dispatched false false ((0x40 + n) * 0x10000000000 + 0xFF) == some ((false, false, true), 0x04, .idle)) = true := by
  decide

/-- R104: all 63 illegal numbers in ACMD mode. -/
theorem test_every_illegal_acmd_rejected :
    ((List.range 64).filter (fun n => n ≠ 41)).all (fun n =>
      dispatched true true ((0x40 + n) * 0x10000000000 + 0xFF) == some ((false, true, true), 0x05, .idle)) = true := by
  decide

/-- V-41: `pending`, `crc`, `inUse` and the flags right after a dispatched CMD17; the tail is WaitRead. -/
theorem test_dispatch_cmd17 :
    dispatched false false 0x510000000271 = some ((false, false, false), 0x00, .waitRead) ∧
    (match step ((idle false false).withFetchWord 48 0x510000000271) with
      | .next t => (t.pending, t.crc, t.inUse)
      | _ => (false, 1, true)) = (true, 0x0000, false) := by decide

/-- V-41: a rejected ACMD17 requests nothing. -/
theorem test_dispatch_acmd17_requests_nothing :
    (match step ((idle false true).withFetchWord 48 0x5100000000FF) with
      | .next t => (t.pending, t.crc)
      | _ => (true, 0)) = (false, 0xFFFF) := by decide

/-- V-41: block addresses at the widths 32 and 41. -/
theorem test_block_address :
    blockAddressOf 32 2 = 0x400 ∧ blockAddressOf 32 0x007FFFFF = 0xFFFFFE00 ∧ blockAddressOf 32 0x00800000 = 0 ∧
    blockAddressOf 32 0xFFFFFFFF = 0xFFFFFE00 ∧ blockAddressOf 41 0x00800000 = 0x100000000 ∧
    blockAddressOf 41 0xFFFFFFFF = 0x1FFFFFFFE00 := by decide

/-! ### One step of each state -/

/-- `state`, `bitcount` and `miso` after one selected edge that carries `b`. -/
def clocked (b : Bool) (s : State) : Option (CardState × BitVec 6 × Bool) :=
  match step { s with inputs := [.edge (selectedCtrl b)] } with
  | .next t => some (t.state, t.bitcount, t.miso)
  | _ => none

/-- V-40, steps 0 and 2; F1. -/
theorem test_idle :
    clocked true base = some (.idle, 0, true) ∧ clocked false base = some (.recvBit1, 0, true) := by decide

/-- V-40, step 3, and F1: a 0 abandons the frame. `miso` is not written (D7). -/
theorem test_recvBit1 :
    clocked true { base with state := .recvBit1 } = some (.recvCmdNr, 0, false) ∧
    clocked false { base with state := .recvBit1 } = some (.idle, 0, false) := by decide

/-- R84's example: after 0, 1, 0, 0, 0 the bit 1 makes `cmd` 17. -/
theorem test_recvCmdNr :
    (match step { base with state := .recvCmdNr, bitcount := 5, cmd := 0b01000, arg := 7, inputs := [.edge 0x8000] } with
      | .next t => (t.state, t.bitcount, t.cmd, t.arg)
      | _ => (.idle, 0, 0, 0)) = (.recvArg, 0, 17, 0) := by decide

/-- R85's example: the last 0 makes `arg` 512. -/
theorem test_recvArg :
    (match step { base with state := .recvArg, bitcount := 31, arg := 256, checksum := 9, inputs := [.edge 0x0000] } with
      | .next t => (t.state, t.bitcount, t.arg, t.checksum)
      | _ => (.idle, 0, 0, 1)) = (.recvChecksum, 0, 512, 0) := by decide

/-- R86's example: byte 5 = 0x95: the seventh bit makes `checksum` 0x4A. -/
theorem test_recvChecksum :
    (match step { base with state := .recvChecksum, bitcount := 6, checksum := 0b100101, inputs := [.edge 0x0000] } with
      | .next t => (t.state, t.bitcount, t.checksum)
      | _ => (.idle, 0, 0)) = (.recvChecksum, 7, 0x4A) := by decide

/-- S1: `invalidCommand` at bit-time 5, `idleFlag` at bit-time 7, then Idle. -/
theorem test_sendResponse_rejected :
    clocked true { base with state := .sendResponse, bitcount := 5, invalidCommand := true, cmd := 16 } =
      some (.sendResponse, 6, true) ∧
    clocked true { base with state := .sendResponse, bitcount := 7, invalidCommand := true, idleFlag := true, cmd := 16 } =
      some (.idle, 0, true) := by decide

/-- S2, S3: the tail of CMD8, and none when it was rejected. -/
theorem test_sendResponse_tail :
    clocked true { base with state := .sendResponse, bitcount := 7, cmd := 8 } = some (.sendIfCond, 0, false) ∧
    clocked true { base with state := .sendResponse, bitcount := 7, cmd := 8, invalidCommand := true } =
      some (.idle, 0, false) := by decide

/-- S4, S5: bit 24 of the tail is the top bit of the argument's low byte, bit 31 its last. -/
theorem test_sendIfCond :
    clocked true { base with state := .sendIfCond, bitcount := 23, arg := 0xFFFFFF55 } = some (.sendIfCond, 24, false) ∧
    clocked true { base with state := .sendIfCond, bitcount := 24, arg := 0x1AA } = some (.sendIfCond, 25, true) ∧
    clocked true { base with state := .sendIfCond, bitcount := 31, arg := 0xFFFFFF55 } = some (.idle, 0, true) := by decide

/-- S6. -/
theorem test_sendOcr :
    clocked true { base with state := .sendOcr, bitcount := 0, arg := 0xFFFFFFFF, miso := true } =
      some (.sendOcr, 1, false) ∧
    clocked true { base with state := .sendOcr, bitcount := 31, miso := true } = some (.idle, 0, false) := by decide

/-- V-43: the eighth step leaves when a buffer is lent, the ninth and later stay at 8 without one. -/
theorem test_waitRead :
    clocked false { base with state := .waitRead, bitcount := 7, inUse := true } = some (.sendStart, 0, true) ∧
    clocked false { base with state := .waitRead, bitcount := 6, inUse := true } = some (.waitRead, 7, true) ∧
    clocked false { base with state := .waitRead, bitcount := 8, pending := true } = some (.waitRead, 8, true) ∧
    clocked false { base with state := .waitRead, bitcount := 8, inUse := true } = some (.sendStart, 0, true) := by decide

/-- R116: seven ones and a zero. -/
theorem test_sendStart :
    clocked true { base with state := .sendStart, bitcount := 6 } = some (.sendStart, 7, true) ∧
    clocked true { base with state := .sendStart, bitcount := 7 } = some (.sendData, 0, false) := by decide

/-- R117's example: the last bit of 0x03; `crc` = 0x3063, `bufPos` = 1, `remaining` = 511. -/
theorem test_sendData :
    (match step { base with
        state := .sendData, bitcount := 7, crc := 0, remaining := 512, buf := Memory.ofBytes [0x03, 0x0A],
        inputs := [.edge 0x0000] } with
      | .next t => (t.state, t.bitcount, t.miso, t.crc, t.bufPos, t.remaining)
      | _ => (.idle, 1, false, 0, 0, 0)) = (.sendData, 0, true, 0x3063, 1, 511) := by decide

/-- P2: the last byte goes on to SendCrc. -/
theorem test_sendData_last :
    (match step { base with
        state := .sendData, bitcount := 7, crc := 0x3063, bufPos := 1, remaining := 1,
        buf := Memory.ofBytes [0x03, 0x0A], inputs := [.edge 0x0000] } with
      | .next t => (t.state, t.bitcount, t.miso, t.crc, t.bufPos, t.remaining)
      | _ => (.idle, 1, true, 0, 0, 1)) = (.sendCrc, 0, false, 0xF419, 2, 0) := by decide

/-- R118's example, 0x6B2F: the first bit 0, the second 1, the last 1. -/
theorem test_sendCrc :
    clocked true { base with state := .sendCrc, bitcount := 0, crc := 0x6B2F } = some (.sendCrc, 1, false) ∧
    clocked true { base with state := .sendCrc, bitcount := 1, crc := 0x6B2F } = some (.sendCrc, 2, true) ∧
    clocked true { base with state := .sendCrc, bitcount := 15, crc := 0x6B2F } = some (.idle, 0, true) := by decide

/-- P2: the borrow ends with the last CRC bit. -/
theorem test_sendCrc_releases :
    (match step { base with
        state := .sendCrc, bitcount := 15, crc := 0x6B2F, inUse := true, buf := Memory.ofBytes [0x03],
        inputs := [.edge 0x0000] } with
      | .next t => (t.inUse, t.buf.read 0, t.crc)
      | _ => (true, none, 0)) = (false, none, 0x6B2F) := by decide

/-! ### Selection -/

/-- F8: own select bit 0 and the other three 1; own bit 1 and the others 0. -/
theorem test_select_lines :
    [SelectLine.ss2, .ss3, .ss4, .ss5].map (fun l => selectedBy l (0x003C#16 &&& ~~~(1#16 <<< selectBit l))) =
      [true, true, true, true] ∧
    [SelectLine.ss2, .ss3, .ss4, .ss5].map (fun l => selectedBy l (1#16 <<< selectBit l)) =
      [false, false, false, false] := by decide

/-- F7: with `SS_BIT` = 2 the word 0x7FFB is a selected 0. -/
theorem test_other_bits_ignored : selectedBy .ss2 0x7FFB#16 = true ∧ mosi 0x7FFB#16 = false := by decide

/-- S7: a deselected edge, whichever line is the card's. -/
theorem test_deselected :
    (match step { base with state := .sendResponse, bitcount := 3, inputs := [.edge 0x803C] } with
      | .next t => (t.state, t.bitcount, t.miso)
      | _ => (.idle, 0, true)) = (.sendResponse, 3, false) := by decide

/-! ### The operations between edges -/

/-- The answer of one operation, and `pending`, `inUse`, `bufPos`, `remaining` after it. -/
def answered (e : Event) (s : State) : Option (Reply × Bool × Bool × BitVec 10 × BitVec 10) :=
  match step { s with inputs := [e] } with
  | .next t => some (t.reply, t.pending, t.inUse, t.bufPos, t.remaining)
  | _ => none

/-- A buffer of 512 zero bytes. -/
def zeros : List Byte := List.replicate 512 0

theorem zeros_length : zeros.length = 512 := List.length_replicate

/-- After `CMD17(2)` has been dispatched (H-4). -/
def requested : State :=
  { base with
    state := .sendResponse, cmd := 17, arg := 2, pending := true, crc := 0,
    blockAddress := blockAddressOf Config.addrWidth 2 }

/-- After an accepted `Provide` (H-6). -/
def lent : State := { lendBuffer zeros requested with reply := .provide true }

/-- H-1, H-2, H-3. -/
theorem test_after_reset :
    answered .poll base = some (.poll none, false, false, 0, 0) ∧
    answered .inUse base = some (.inUse false, false, false, 0, 0) ∧
    answered (.provide zeros) base = some (.provide false, false, false, 0, 0) := by
  simp [answered, step, perform, provide, provideAccepted, bufferWellFormed, zeros_length, base, State.reset,
    State.afterReset, pollAnswer, -List.reduceReplicate]

/-- H-4: `Poll` gives 1024. -/
theorem test_poll :
    answered .poll requested = some (.poll (some (blockAddressOf Config.addrWidth 2)), true, false, 0, 0) ∧
    (blockAddressOf 41 2).toNat = 1024 := ⟨rfl, by decide⟩

/-- H-5. -/
theorem test_provide_wrong_length :
    answered (.provide (List.replicate 511 0)) requested = some (.provide false, true, false, 0, 0) ∧
    answered (.provide (List.replicate 513 0)) requested = some (.provide false, true, false, 0, 0) := by
  simp [answered, step, perform, provide, provideAccepted, bufferWellFormed, requested, base, State.reset,
    State.afterReset, -List.reduceReplicate]

/-- H-6, H-7. -/
theorem test_provide :
    answered (.provide zeros) requested = some (.provide true, false, true, 0, 512) ∧
    answered (.provide zeros) lent = some (.provide false, false, true, 0, 512) := by
  simp [answered, step, perform, provide, provideAccepted, bufferWellFormed, lendBuffer, zeros_length, lent, requested,
    base, State.reset, State.afterReset, -List.reduceReplicate]

/-- H-8: `blockAddress` is kept (D22). -/
theorem test_after_provide :
    answered .poll lent = some (.poll none, false, true, 0, 512) ∧
    answered .inUse lent = some (.inUse true, false, true, 0, 512) ∧
    (probeOf lent).blockAddress = blockAddressOf Config.addrWidth 2 := ⟨rfl, rfl, rfl⟩

/-- R36: the probe's numbers. -/
theorem test_probe_numbers :
    (probeOf base).state = 0 ∧ (probeOf { base with state := .sendResponse }).state = 5 ∧
    (probeOf { base with state := .sendCrc }).state = 11 := by decide

/-- R161: `Reset()` in the middle of a transfer. -/
theorem test_reset_ends_borrow :
    (match step { lent with state := .sendData, bitcount := 3, inputs := [.reset] } with
      | .next t => (t.state, t.bitcount, t.pending, t.inUse, t.buf.read 0)
      | _ => (.sendData, 3, true, true, none)) = (.idle, 0, false, false, none) := rfl

/-- U8, R31: a foreign write while the card is deselected, and one while it is selected. -/
theorem test_foreign_write :
    (match step { base with inputs := [.otherWrite 0x003C true] } with
      | .next t => t.miso
      | _ => false) = true ∧
    step { base with inputs := [.otherWrite 0x0000 true] } = .refused .contendedInput := ⟨rfl, rfl⟩

/-! ### CRC16 (V-44) -/

theorem test_crc_step :
    crc16Step 0x0000 0x00 = 0x0000 ∧ crc16Step 0x0000 0x01 = 0x1021 ∧ crc16Step 0x0000 0x80 = 0x9188 ∧
    crc16Step 0x0000 0xFF = 0x1EF0 ∧ crc16Step 0xFFFF 0x00 = 0xE1F0 ∧ crc16Step 0xFFFF 0xFF = 0xFF00 ∧
    crc16Step 0x1234 0x56 = 0x3C40 ∧ crc16Step 0x8000 0x00 = 0x9188 ∧ crc16Step 0x00FF 0xFF = 0xE1F0 ∧
    crc16Step 0x3063 0x0A = 0xF419 ∧ crc16Step 0x1021 0x10 = 0x2100 := by decide

theorem test_crc_messages :
    crc16 [] 0 = 0x0000 ∧ crc16 [0x01] 0 = 0x1021 ∧ crc16 [0x41] 0 = 0x58E5 ∧
    crc16 [0x31, 0x32, 0x33, 0x34, 0x35, 0x36, 0x37, 0x38, 0x39] 0 = 0x31C3 ∧ crc16 [0x03, 0x0A] 0 = 0xF419 ∧
    crc16 [0xFF, 0xFF] 0 = 0x1D0F := by decide

/-- R134, indices 0x00 to 0x1F of the listing. -/
theorem test_table_0 :
    (List.range 32).map (fun i => crcTable (BitVec.ofNat 8 (0 + i))) =
      [0x0000, 0x1021, 0x2042, 0x3063, 0x4084, 0x50A5, 0x60C6, 0x70E7] ++
      [0x8108, 0x9129, 0xA14A, 0xB16B, 0xC18C, 0xD1AD, 0xE1CE, 0xF1EF] ++
      [0x1231, 0x0210, 0x3273, 0x2252, 0x52B5, 0x4294, 0x72F7, 0x62D6] ++
      [0x9339, 0x8318, 0xB37B, 0xA35A, 0xD3BD, 0xC39C, 0xF3FF, 0xE3DE] := by decide

/-- R134, indices 0x20 to 0x3F of the listing. -/
theorem test_table_1 :
    (List.range 32).map (fun i => crcTable (BitVec.ofNat 8 (32 + i))) =
      [0x2462, 0x3443, 0x0420, 0x1401, 0x64E6, 0x74C7, 0x44A4, 0x5485] ++
      [0xA56A, 0xB54B, 0x8528, 0x9509, 0xE5EE, 0xF5CF, 0xC5AC, 0xD58D] ++
      [0x3653, 0x2672, 0x1611, 0x0630, 0x76D7, 0x66F6, 0x5695, 0x46B4] ++
      [0xB75B, 0xA77A, 0x9719, 0x8738, 0xF7DF, 0xE7FE, 0xD79D, 0xC7BC] := by decide

/-- R134, indices 0x40 to 0x5F of the listing. -/
theorem test_table_2 :
    (List.range 32).map (fun i => crcTable (BitVec.ofNat 8 (64 + i))) =
      [0x48C4, 0x58E5, 0x6886, 0x78A7, 0x0840, 0x1861, 0x2802, 0x3823] ++
      [0xC9CC, 0xD9ED, 0xE98E, 0xF9AF, 0x8948, 0x9969, 0xA90A, 0xB92B] ++
      [0x5AF5, 0x4AD4, 0x7AB7, 0x6A96, 0x1A71, 0x0A50, 0x3A33, 0x2A12] ++
      [0xDBFD, 0xCBDC, 0xFBBF, 0xEB9E, 0x9B79, 0x8B58, 0xBB3B, 0xAB1A] := by decide

/-- R134, indices 0x60 to 0x7F of the listing. -/
theorem test_table_3 :
    (List.range 32).map (fun i => crcTable (BitVec.ofNat 8 (96 + i))) =
      [0x6CA6, 0x7C87, 0x4CE4, 0x5CC5, 0x2C22, 0x3C03, 0x0C60, 0x1C41] ++
      [0xEDAE, 0xFD8F, 0xCDEC, 0xDDCD, 0xAD2A, 0xBD0B, 0x8D68, 0x9D49] ++
      [0x7E97, 0x6EB6, 0x5ED5, 0x4EF4, 0x3E13, 0x2E32, 0x1E51, 0x0E70] ++
      [0xFF9F, 0xEFBE, 0xDFDD, 0xCFFC, 0xBF1B, 0xAF3A, 0x9F59, 0x8F78] := by decide

/-- R134, indices 0x80 to 0x9F of the listing. -/
theorem test_table_4 :
    (List.range 32).map (fun i => crcTable (BitVec.ofNat 8 (128 + i))) =
      [0x9188, 0x81A9, 0xB1CA, 0xA1EB, 0xD10C, 0xC12D, 0xF14E, 0xE16F] ++
      [0x1080, 0x00A1, 0x30C2, 0x20E3, 0x5004, 0x4025, 0x7046, 0x6067] ++
      [0x83B9, 0x9398, 0xA3FB, 0xB3DA, 0xC33D, 0xD31C, 0xE37F, 0xF35E] ++
      [0x02B1, 0x1290, 0x22F3, 0x32D2, 0x4235, 0x5214, 0x6277, 0x7256] := by decide

/-- R134, indices 0xA0 to 0xBF of the listing. -/
theorem test_table_5 :
    (List.range 32).map (fun i => crcTable (BitVec.ofNat 8 (160 + i))) =
      [0xB5EA, 0xA5CB, 0x95A8, 0x8589, 0xF56E, 0xE54F, 0xD52C, 0xC50D] ++
      [0x34E2, 0x24C3, 0x14A0, 0x0481, 0x7466, 0x6447, 0x5424, 0x4405] ++
      [0xA7DB, 0xB7FA, 0x8799, 0x97B8, 0xE75F, 0xF77E, 0xC71D, 0xD73C] ++
      [0x26D3, 0x36F2, 0x0691, 0x16B0, 0x6657, 0x7676, 0x4615, 0x5634] := by decide

/-- R134, indices 0xC0 to 0xDF of the listing. -/
theorem test_table_6 :
    (List.range 32).map (fun i => crcTable (BitVec.ofNat 8 (192 + i))) =
      [0xD94C, 0xC96D, 0xF90E, 0xE92F, 0x99C8, 0x89E9, 0xB98A, 0xA9AB] ++
      [0x5844, 0x4865, 0x7806, 0x6827, 0x18C0, 0x08E1, 0x3882, 0x28A3] ++
      [0xCB7D, 0xDB5C, 0xEB3F, 0xFB1E, 0x8BF9, 0x9BD8, 0xABBB, 0xBB9A] ++
      [0x4A75, 0x5A54, 0x6A37, 0x7A16, 0x0AF1, 0x1AD0, 0x2AB3, 0x3A92] := by decide

/-- R134, indices 0xE0 to 0xFF of the listing. -/
theorem test_table_7 :
    (List.range 32).map (fun i => crcTable (BitVec.ofNat 8 (224 + i))) =
      [0xFD2E, 0xED0F, 0xDD6C, 0xCD4D, 0xBDAA, 0xAD8B, 0x9DE8, 0x8DC9] ++
      [0x7C26, 0x6C07, 0x5C64, 0x4C45, 0x3CA2, 0x2C83, 0x1CE0, 0x0CC1] ++
      [0xEF1F, 0xFF3E, 0xCF5D, 0xDF7C, 0xAF9B, 0xBFBA, 0x8FD9, 0x9FF8] ++
      [0x6E17, 0x7E36, 0x4E55, 0x5E74, 0x2E93, 0x3EB2, 0x0ED1, 0x1EF0] := by decide

/-! ### Witnesses: for every statement with hypotheses, concrete values that meet all of them -/

/-- An edge that carries `b` to whichever card. -/
def tick (b : Bool) : Event := .edge (selectedCtrl b)

/-- `n` such edges that carry 1. -/
def ticks (n : Nat) : List Ctrl := List.replicate n (selectedCtrl true)

/-- The edges that carry a frame, most significant bit first. -/
def clock (w : Frame) : List Ctrl := (wireBits w).map selectedCtrl

/-- A step from here dispatches number `n` with argument `a` in the mode `app` gives. -/
def ready (app : Bool) (n : BitVec 6) (a : BitVec 32) : State :=
  { idle true app with state := .recvChecksum, bitcount := 7, cmd := n, arg := a, inputs := [tick true] }

/-- In the middle of a transfer: the first bit of a zero block is next. -/
def sending : State :=
  { lent with state := .sendData, bitcount := 0, cmd := 17, buf := Memory.ofBytes zeros, inputs := [tick true] }

/-- A read that waits without a buffer. -/
def waiting : State := { requested with state := .waitRead, bitcount := 0 }

theorem allSelected_map (bs : List Bool) : allSelected (bs.map selectedCtrl) := by
  intro c hc
  obtain ⟨b, -, rfl⟩ := List.mem_map.1 hc
  exact cardSelected_selectedCtrl b

theorem allSelected_ticks (n : Nat) : allSelected (ticks n) := by
  intro c hc
  rw [List.eq_of_mem_replicate hc]; rfl

theorem allSelected_append {cs ds : List Ctrl} (hc : allSelected cs) (hd : allSelected ds) : allSelected (cs ++ ds) :=
  fun c h => (List.mem_append.1 h).elim (hc c) (hd c)

theorem ready_inv : Inv (ready false 17 2) where
  bitcountInRange := by decide
  pendingWindow h := nomatch h
  borrowWindow h := nomatch h
  cursorAtStart h := nomatch h
  tokenBorrowed h := nomatch h
  dataBorrowed h := nomatch h
  crcBorrowed h := nomatch h
  transferOfRead h := nomatch h
  appCommandWindow h := nomatch h
  readServed h := by rcases h with ⟨h, -⟩ | h <;> cases h
  bufferLent h := nomatch h
  bufferFree _ := rfl

theorem sending_inv : Inv sending where
  bitcountInRange := by decide
  pendingWindow h := nomatch h
  borrowWindow _ := ⟨rfl, .inr rfl, rfl⟩
  cursorAtStart _ h := by rcases h with ⟨h, -⟩ | h | h <;> cases h
  tokenBorrowed h := nomatch h
  dataBorrowed _ := ⟨rfl, by decide⟩
  crcBorrowed h := nomatch h
  transferOfRead _ := ⟨rfl, rfl⟩
  appCommandWindow h := nomatch h
  readServed h := by rcases h with ⟨h, -⟩ | h <;> cases h
  bufferLent _ := Memory.isBlock_ofBytes zeros zeros_length
  bufferFree h := nomatch h

theorem sending_crcInv : CrcInv sending where
  seeded h := by rcases h with ⟨h, -⟩ | h | h <;> cases h
  running _ := rfl
  complete h := nomatch h

/-- The step of `sending`: the first bit of a zero byte. -/
theorem sending_step : step sending = .next { sending with miso := false, bitcount := 1, inputs := [] } := rfl

theorem witness_EncodedCommandDecodesBack :
    Instr.wellFormedIn .cmd (.cmd17 { arg := 0x00800000, checksum := 0x7F, discarded := false }) = true ∧
    Instr.wellFormedIn .acmd (.acmd63 { arg := 0xFFFFFFFF, checksum := 0x7F, discarded := true }) = true :=
  ⟨rfl, rfl⟩

theorem witness_DecodedFrameEncodesBack :
    decodeFrame .cmd 0x510000000271 = .ok (.cmd17 { arg := 2, checksum := 0x38, discarded := true }) := by decide

theorem witness_FramingBitsDecideRejection :
    (0xC00000000000#48).getLsbD 47 = true ∧
    ((0x000000000000#48).getLsbD 47 = false ∧ (0x000000000000#48).getLsbD 46 = false) ∧
    ((0x400000000000#48).getLsbD 47 = false ∧ (0x400000000000#48).getLsbD 46 = true) := by decide

/-- Both sides of the mask test are met. -/
theorem witness_FrameByteView :
    0x510000000271#48 &&& 0xFF0000000000#48 = (0x40#48 ||| (17#6).setWidth 48) <<< 40 ∧
    0x500000000271#48 &&& 0xFF0000000000#48 ≠ (0x40#48 ||| (17#6).setWidth 48) <<< 40 := by decide

/-- The first bytes named in the command statements are those of frames. -/
theorem witness_decodesFrom :
    [0x400000000095#48, 0x48000001AA87#48, 0x500000020015#48, 0x510000000271#48, 0x770000000065#48, 0x7A00000000FD#48,
      0x694000000077#48].map (frameByte · 0) = [0x40, 0x48, 0x50, 0x51, 0x77, 0x7A, 0x69] := by decide

theorem witness_Cmd0SetsIdleFlag : (ready false 0 0).cmd = 0#6 := rfl

theorem witness_Cmd8HasNoEffect : (ready false 8 0x1AA).cmd = 8#6 := rfl

/-- Equal to 512, one below, one above, and equal in the low half only. -/
theorem witness_Cmd16AcceptsOnly512 :
    (512#32 = 0x00000200#32) ∧ (511#32 ≠ 0x00000200#32) ∧ (513#32 ≠ 0x00000200#32) ∧ (0x10200#32 ≠ 0x00000200#32) ∧
    (ready false 16 512).cmd = 16#6 := by decide

theorem witness_Cmd17RequestsBlock :
    ((ready false 17 2).inUse = false ∧ zeros.length = 512) ∧ (ready false 17 2).cmd = 17#6 ∧
    (Inv (ready false 17 2) ∧ dispatching (ready false 17 2)) :=
  ⟨⟨rfl, zeros_length⟩, rfl, ready_inv, _, _, rfl, rfl, rfl, rfl⟩

theorem witness_Cmd55EntersApplicationMode : (ready false 55 0).cmd = 55#6 := rfl

theorem witness_Cmd58HasNoEffect :
    (ready false 58 0).cmd = 58#6 ∧ { base with state := CardState.sendOcr }.state = .sendOcr := ⟨rfl, rfl⟩

theorem witness_Acmd41ClearsIdleFlag : (ready true 41 0).cmd = 41#6 := rfl

/-- The first and the last illegal number, and those beside accepted ones. -/
theorem witness_IllegalCmdIsRejected (f : CmdFields) :
    [Instr.cmd1 f, .cmd7 f, .cmd9 f, .cmd15 f, .cmd18 f, .cmd54 f, .cmd56 f, .cmd57 f, .cmd59 f, .cmd63 f].all (fun i =>
      decide (i.mode = .cmd ∧ i.number.toNat ∉ [0, 8, 16, 17, 55, 58])) = true ∧
    (ready false 63 0).cmd = Instr.number (.cmd63 f) := ⟨rfl, rfl⟩

theorem witness_IllegalAcmdIsRejected (f : CmdFields) :
    [Instr.acmd0 f, .acmd40 f, .acmd42 f, .acmd63 f].all (fun i =>
      decide (i.mode = .acmd ∧ i.number.toNat ≠ 41)) = true ∧
    (ready true 0 0).cmd = Instr.number (.acmd0 f) := ⟨rfl, rfl⟩

theorem witness_AcceptedCommandMap :
    (ready false 58 0).cmd = 58#6 ∧ frameByte 0x7A0000000000#48 0 = 0x40#8 ||| (58#6).setWidth 8 := by decide

theorem witness_ApplicationModeLastsOneFrame (f : CmdFields) :
    (∃ t, exec (.cmd55 f) (ready false 55 0) = .next t) ∧
    (∃ t, step (ready true 41 0) = .next t ∧ t.appCommand ≠ (ready true 41 0).appCommand) ∧
    (∃ t, step { idle false true with inputs := [.reset] } = .next t ∧ t.appCommand ≠ true) :=
  ⟨⟨_, rfl⟩, ⟨_, rfl, by decide⟩, _, rfl, by decide⟩

theorem witness_DispatchFrame (f : CmdFields) :
    (∃ t, exec (.cmd17 f) (ready false 17 2) = .next t) ∧ (∀ g, Instr.cmd17 f ≠ .cmd0 g ∧ Instr.cmd17 f ≠ .acmd41 g) ∧
    (∃ t, exec (.cmd0 f) (ready false 0 0) = .next t) ∧ (∀ g, Instr.cmd0 f ≠ .cmd17 g) :=
  ⟨⟨_, rfl⟩, fun _ => ⟨nofun, nofun⟩, ⟨_, rfl⟩, fun _ => nofun⟩

/-- Two frames that differ in checksum and last bit, dispatched in an idle and in a busy card. -/
theorem witness_AcceptanceIgnoresCardStatus :
    ∃ f g : CmdFields, f ≠ g ∧ f.arg = g.arg ∧ (∃ t, exec (selectCommand .cmd 16#6 f) (idle true false) = .next t) ∧
      (∃ v, exec (selectCommand .cmd 16#6 g) sending = .next v) :=
  ⟨⟨512, 0, true⟩, ⟨512, 1, false⟩, by decide, rfl, ⟨_, rfl⟩, _, rfl⟩

theorem witness_ChecksumIsNeverExamined :
    (0x500000020015#48).extractLsb' 8 40 = (0x5000000200FE#48).extractLsb' 8 40 ∧
    (∃ i, decodeFrame .cmd 0x500000020015#48 = .ok i) ∧ (∃ j, decodeFrame .cmd 0x5000000200FE#48 = .ok j) :=
  ⟨by decide, ⟨_, rfl⟩, _, rfl⟩

theorem witness_RejectionIsPrecise (f : CmdFields) :
    (∃ t, exec (.acmd8 f) (ready true 8 0) = .next t ∧ t.invalidCommand = true) ∧
    (dispatching (ready true 8 0) ∧ ∃ t, step (ready true 8 0) = .next t) :=
  ⟨⟨_, rfl, rfl⟩, ⟨_, _, rfl, rfl, rfl, rfl⟩, _, rfl⟩

/-- The least and the recommended width, and the arguments on both sides of 2^23. -/
theorem witness_DispatchArithmetic :
    (32 ≤ 32 ∧ 0 < 32 ∧ 31 < 32) ∧ (32 ≤ 41 ∧ 41 ≤ 41) ∧ (0x007FFFFF#32).toNat < 2 ^ 23 ∧
    ¬(0x00800000#32).toNat < 2 ^ 23 := by decide

theorem witness_StepRunsDecodedCommand :
    (ready true 41 0).inputs = .edge (selectedCtrl true) :: [] ∧ cardSelected (selectedCtrl true) = true ∧
    (ready true 41 0).state = .recvChecksum ∧ (ready true 41 0).bitcount = 7#6 ∧
    decodeFrame (decodeMode (ready true 41 0)) (receivedFrame (mosi (selectedCtrl true)) (ready true 41 0)) =
      .ok (.acmd41 { arg := 0, checksum := 0, discarded := true }) := by decide

theorem witness_PlacedWordRunsNext :
    decodeFrame (decodeMode base) (frameOfTableWord 48 0x500000020015) =
      .ok (.cmd16 { arg := 512, checksum := 0x0A, discarded := true }) := by decide

theorem witness_DeselectedEdgeChangesNothing :
    { sending with inputs := [.edge 0xFFFF] }.inputs = .edge 0xFFFF :: [] ∧
    (0xFFFF#16).getLsbD (selectBit Config.ssLine) = true :=
  ⟨rfl, by cases Config.ssLine <;> rfl⟩

theorem witness_EdgeReadsTwoBits :
    (0x0000#16 ≠ 0x7FC3#16) ∧ (0x0000#16).getLsbD 15 = (0x7FC3#16).getLsbD 15 ∧
    (0x0000#16).getLsbD (selectBit Config.ssLine) = (0x7FC3#16).getLsbD (selectBit Config.ssLine) :=
  ⟨by decide, by decide, by cases Config.ssLine <;> rfl⟩

/-- Each clause at the ends of its range. -/
theorem witness_FramerTransitions :
    cardSelected (selectedCtrl true) = true ∧ cardSelected (selectedCtrl false) = true ∧
    mosi (selectedCtrl true) = true ∧ mosi (selectedCtrl false) = false ∧
    base.state = .idle ∧ { base with state := CardState.recvBit1 }.state = .recvBit1 ∧
    ((0#6).toNat < 5 ∧ (4#6).toNat < 5 ∧ ¬(5#6).toNat < 5) ∧ ((0#6).toNat < 31 ∧ (30#6).toNat < 31 ∧ ¬(31#6).toNat < 31) ∧
    ((0#6).toNat < 7 ∧ (6#6).toNat < 7 ∧ ¬(7#6).toNat < 7) ∧
    ((ready false 0 0).state = .recvChecksum ∧ (ready false 0 0).bitcount = 7#6 ∧
      (ready false 0 0).inputs = .edge (selectedCtrl true) :: []) := by decide

theorem witness_WaitAndTokenTransitions :
    cardSelected (selectedCtrl false) = true ∧ (0#6).toNat < 7 ∧ (6#6).toNat < 7 ∧ ¬(7#6).toNat < 7 ∧
    (waiting.state = .waitRead ∧ waiting.inUse = false) ∧
    ({ lent with state := .waitRead }.inUse = true ∧ { lent with state := .sendStart }.state = .sendStart) := by decide

theorem witness_FrameReceptionDispatches :
    ∃ (w : Frame) (cs : List Ctrl) (rest : List Event) (s : State),
      w.wellFormed = true ∧ allSelected cs ∧ cs.map mosi = wireBits w ∧ s.state = .idle ∧ s.inputs = edges cs ++ rest :=
  ⟨0x510000000271, clock 0x510000000271, [.poll],
    { base with inputs := edges (clock 0x510000000271) ++ [.poll] }, rfl, allSelected_map _, rfl, rfl, rfl⟩

theorem witness_ResponseByteOnWire :
    ∃ (cs : List Ctrl) (rest : List Event) (s : State),
      allSelected cs ∧ cs.length = 8 ∧ s.state = .sendResponse ∧ s.bitcount = 0#6 ∧ s.inputs = edges cs ++ rest :=
  ⟨ticks 8, [], { requested with inputs := edges (ticks 8) ++ [] }, allSelected_ticks 8, rfl, rfl, rfl, rfl⟩

theorem witness_CommandTransaction :
    ∃ (w : Frame) (cs ds : List Ctrl) (rest : List Event) (s : State),
      w.wellFormed = true ∧ allSelected (cs ++ ds) ∧ cs.map mosi = wireBits w ∧ ds.length = 8 ∧ s.state = .idle ∧
      s.inputs = edges (cs ++ ds) ++ rest :=
  ⟨0x694000000077, clock 0x694000000077, ticks 8, [],
    { idle true true with inputs := edges (clock 0x694000000077 ++ ticks 8) ++ [] }, rfl,
    allSelected_append (allSelected_map _) (allSelected_ticks 8), rfl, rfl, rfl, rfl⟩

theorem witness_EchoTailOnWire :
    ∃ (cs : List Ctrl) (rest : List Event) (s : State),
      allSelected cs ∧ cs.length = 32 ∧ s.state = .sendIfCond ∧ s.bitcount = 0#6 ∧ s.inputs = edges cs ++ rest :=
  ⟨ticks 32, [], { base with state := .sendIfCond, arg := 0x1AA, inputs := edges (ticks 32) ++ [] },
    allSelected_ticks 32, rfl, rfl, rfl, rfl⟩

theorem witness_OcrTailOnWire :
    ∃ (cs : List Ctrl) (rest : List Event) (s : State),
      allSelected cs ∧ cs.length = 32 ∧ s.state = .sendOcr ∧ s.bitcount = 0#6 ∧ s.inputs = edges cs ++ rest :=
  ⟨ticks 32, [], { base with state := .sendOcr, inputs := edges (ticks 32) ++ [] },
    allSelected_ticks 32, rfl, rfl, rfl, rfl⟩

/-- A buffer lent before the first, and after the ninth step of the wait. -/
theorem witness_WaitLastsUntilBuffer (k : Nat) (_ : k = 0 ∨ k = 9) :
    ∃ (bytes : List Byte) (cs ds : List Ctrl) (rest : List Event) (s : State),
      cs.length = k ∧ bytes.length = 512 ∧ allSelected (cs ++ ds) ∧ cs.length + ds.length = max 8 (cs.length + 1) ∧
      s.state = .waitRead ∧ s.bitcount = 0#6 ∧ s.pending = true ∧ s.inUse = false ∧
      s.inputs = edges cs ++ [.provide bytes] ++ edges ds ++ rest := by
  refine ⟨zeros, ticks k, ticks (max 8 (k + 1) - k), [],
    { waiting with inputs := edges (ticks k) ++ [.provide zeros] ++ edges (ticks (max 8 (k + 1) - k)) ++ [] },
    List.length_replicate, zeros_length, allSelected_append (allSelected_ticks _) (allSelected_ticks _), ?_, rfl, rfl,
    rfl, rfl, rfl⟩
  simp only [ticks, List.length_replicate]
  omega

/-- The first byte of a block; and the last, after which none remains. -/
theorem witness_DataByteOnWire :
    (∃ (cs : List Ctrl) (rest : List Event) (s : State),
      allSelected cs ∧ cs.length = 8 ∧ s.state = .sendData ∧ s.bitcount = 0#6 ∧ s.remaining = 512#10 ∧
      s.buf.read s.bufPos.toNat = some 0x00#8 ∧ s.inputs = edges cs ++ rest) ∧
    (∃ (cs : List Ctrl) (rest : List Event) (s : State),
      allSelected cs ∧ cs.length = 8 ∧ s.state = .sendData ∧ s.bitcount = 0#6 ∧ s.remaining = 1#10 ∧
      s.buf.read s.bufPos.toNat = some 0x0A#8 ∧ s.inputs = edges cs ++ rest) :=
  ⟨⟨ticks 8, [], { sending with inputs := edges (ticks 8) ++ [] }, allSelected_ticks 8, rfl, rfl, rfl, rfl, rfl, rfl⟩,
    ticks 8, [],
    { sending with
      buf := Memory.ofBytes [0x03, 0x0A], bufPos := 1, remaining := 1, inputs := edges (ticks 8) ++ [] },
    allSelected_ticks 8, rfl, rfl, rfl, rfl, rfl, rfl⟩

theorem witness_CrcOnWire :
    ∃ (cs : List Ctrl) (rest : List Event) (s : State),
      allSelected cs ∧ cs.length = 16 ∧ s.state = .sendCrc ∧ s.bitcount = 0#6 ∧ s.inputs = edges cs ++ rest :=
  ⟨ticks 16, [], { base with state := .sendCrc, crc := 0x6B2F, inputs := edges (ticks 16) ++ [] },
    allSelected_ticks 16, rfl, rfl, rfl, rfl⟩

theorem witness_BlockOnWire :
    ∃ (bytes : List Byte) (cs : List Ctrl) (rest : List Event) (s : State),
      bytes.length = 512 ∧ allSelected cs ∧ cs.length = 8 + 4096 + 16 ∧ s.state = .sendStart ∧ s.bitcount = 0#6 ∧
      s.buf = Memory.ofBytes bytes ∧ s.bufPos = 0#10 ∧ s.remaining = 512#10 ∧ s.crc = 0x0000#16 ∧
      s.inputs = edges cs ++ rest :=
  ⟨zeros, ticks (8 + 4096 + 16), [], { lent with state := .sendStart, inputs := edges (ticks (8 + 4096 + 16)) ++ [] },
    zeros_length, allSelected_ticks _, List.length_replicate, rfl, rfl, rfl, rfl, rfl, rfl, rfl⟩

theorem witness_ReadTransaction :
    ∃ (w : Frame) (bytes : List Byte) (cs ds es : List Ctrl) (rest : List Event) (s : State),
      w.wellFormed = true ∧ frameNumber w = 17#6 ∧ bytes.length = 512 ∧ allSelected (cs ++ ds ++ es) ∧
      cs.map mosi = wireBits w ∧ ds.length = 8 ∧ es.length = 8 + 8 + 4096 + 16 ∧ s.state = .idle ∧
      s.appCommand = false ∧ s.pending = false ∧ s.inUse = false ∧
      s.inputs = edges cs ++ [.provide bytes] ++ edges ds ++ edges es ++ rest :=
  ⟨0x510000000271, zeros, clock 0x510000000271, ticks 8, ticks (8 + 8 + 4096 + 16), [],
    { base with
      inputs := edges (clock 0x510000000271) ++ [.provide zeros] ++ edges (ticks 8) ++
        edges (ticks (8 + 8 + 4096 + 16)) ++ [] },
    rfl, rfl, zeros_length,
    allSelected_append (allSelected_append (allSelected_map _) (allSelected_ticks _)) (allSelected_ticks _),
    rfl, rfl, List.length_replicate, rfl, rfl, rfl, rfl, rfl⟩

theorem witness_StarvedReadStaysParked :
    ∃ (evs rest : List Event) (s : State),
      (∀ e ∈ evs, cannotEndWait e = true) ∧ s.state = .waitRead ∧ s.pending = true ∧ s.inUse = false ∧
      s.inputs = evs ++ rest ∧ evs[1]? = some (.edge (selectedCtrl false)) ∧ cardSelected (selectedCtrl false) = true :=
  ⟨[.poll, tick false, .provide [], .probe, .inUse, .edge 0x003C, .otherWrite 0x003C false], [],
    { waiting with
      inputs := [.poll, tick false, .provide [], .probe, .inUse, .edge 0x003C, .otherWrite 0x003C false] ++ [] },
    by decide, rfl, rfl, rfl, rfl, rfl, rfl⟩

theorem witness_PollIsPureRead :
    { requested with inputs := [.poll] }.inputs = .poll :: [] ∧ requested.pending = true ∧ base.pending = false :=
  ⟨rfl, rfl, rfl⟩

theorem witness_InUseAndProbeArePureReads :
    { lent with inputs := [.inUse] }.inputs = .inUse :: [] ∧ { lent with inputs := [.probe] }.inputs = .probe :: [] :=
  ⟨rfl, rfl⟩

theorem witness_ProvideLendsBuffer :
    { requested with inputs := [.provide zeros] }.inputs = .provide zeros :: [] ∧ zeros.length = 512 ∧
    requested.pending = true ∧ requested.inUse = false := ⟨rfl, zeros_length, rfl, rfl⟩

/-- Each of the three misuses alone: one byte short or long, no request, a buffer in use. -/
theorem witness_ProvideMisuseIsRefused :
    ((List.replicate 511 (0 : Byte)).length ≠ 512 ∧ (List.replicate 513 (0 : Byte)).length ≠ 512) ∧
    base.pending = false ∧ lent.inUse = true := by
  refine ⟨?_, rfl, rfl⟩
  simp only [List.length_replicate]
  decide

theorem witness_ResetEstablishesIdle : { sending with inputs := [.reset] }.inputs = .reset :: [] := rfl

theorem witness_IdleFlagWriters :
    (∃ t, step { ready false 0 0 with idleFlag := false } = .next t ∧ t.idleFlag ≠ false) ∧
    (∃ t, step (ready true 41 0) = .next t ∧ t.idleFlag ≠ (ready true 41 0).idleFlag) :=
  ⟨⟨_, rfl, by decide⟩, _, rfl, by decide⟩

theorem witness_PendingWriters :
    (∃ t, step (ready false 17 2) = .next t ∧ t.pending ≠ (ready false 17 2).pending) ∧
    (∃ t, step { requested with inputs := [.provide zeros] } = .next t ∧ t.pending ≠ requested.pending) ∧
    (∃ t, step { requested with inputs := [.reset] } = .next t ∧ t.pending ≠ requested.pending) := by
  refine ⟨⟨_, rfl, by decide⟩, ⟨_, rfl, ?_⟩, _, rfl, by decide⟩
  simp [provide, provideAccepted, bufferWellFormed, lendBuffer, zeros_length, requested, base, State.reset,
    State.afterReset]

theorem witness_InUseWriters :
    (∃ t, step { requested with inputs := [.provide zeros] } = .next t ∧ t.inUse ≠ requested.inUse) ∧
    (∃ t, step { sending with state := .sendCrc, bitcount := 15, remaining := 0 } = .next t ∧ t.inUse ≠ sending.inUse) ∧
    (∃ t, step { sending with inputs := [.reset] } = .next t ∧ t.inUse ≠ sending.inUse) := by
  refine ⟨⟨_, rfl, ?_⟩, ⟨_, rfl, by decide⟩, _, rfl, by decide⟩
  simp [provide, provideAccepted, bufferWellFormed, lendBuffer, zeros_length, requested, base, State.reset,
    State.afterReset]

theorem witness_SequencerMovesAtSelectedEdges :
    (∃ t, step { base with inputs := [tick false] } = .next t ∧ t.state ≠ base.state) ∧
    (∃ t, step { sending with inputs := [.reset] } = .next t ∧ t.state ≠ sending.state) :=
  ⟨⟨_, rfl, by decide⟩, _, rfl, by decide⟩

theorem witness_CrcWriters :
    (∃ t, step (ready false 17 2) = .next t ∧ t.crc ≠ (ready false 17 2).crc) ∧
    (∃ t, step { sending with bitcount := 7, buf := Memory.ofBytes [0x03] } = .next t ∧ t.crc ≠ sending.crc) :=
  ⟨⟨_, rfl, by decide⟩, _, rfl, by decide⟩

theorem witness_BufferIsNeverWritten :
    (∃ t, step { sending with state := .sendCrc, bitcount := 15 } = .next t ∧
      ∃ k : Nat, t.buf.read k ≠ sending.buf.read k) ∧
    (∃ t, step { sending with inputs := [.reset] } = .next t ∧ ∃ k : Nat, t.buf.read k ≠ sending.buf.read k) :=
  ⟨⟨_, rfl, 0, by decide⟩, _, rfl, 0, by decide⟩

theorem witness_MisoWriters :
    (∃ t, step { base with inputs := [tick true] } = .next t ∧ t.miso ≠ base.miso) ∧
    (∃ t, step { base with inputs := [.otherWrite 0x003C true] } = .next t ∧ t.miso ≠ base.miso) :=
  ⟨⟨_, rfl, by decide⟩, _, rfl, by decide⟩

theorem witness_StepKeepsInvariants : Inv sending ∧ ∃ t, step sending = .next t := ⟨sending_inv, _, sending_step⟩

theorem witness_NoStopWithinInvariants : Inv sending ∧ ¬contended sending :=
  ⟨sending_inv, by rintro ⟨c, b, rest, h, -⟩; cases h⟩

theorem witness_StepKeepsRunningCrc : Inv sending ∧ CrcInv sending ∧ ∃ t, step sending = .next t :=
  ⟨sending_inv, sending_crcInv, _, sending_step⟩

theorem witness_ReceptionKeepsMisoHigh :
    ∃ s : State, s.state = .recvArg ∧ receptionHigh s ∧ (∀ ctrl b rest, s.inputs ≠ .otherWrite ctrl b :: rest) ∧
      ∃ t, step s = .next t :=
  ⟨{ base with state := .recvArg, miso := true, inputs := [tick true] }, rfl, fun _ => rfl,
    fun _ _ _ => nofun, _, rfl⟩

/-- In Idle, and in the middle of a transfer. -/
theorem witness_QuiescentIdle : (Inv State.reset ∧ State.reset.state = .idle) ∧ Inv sending := by
  refine ⟨⟨⟨by decide, nofun, nofun, nofun, nofun, nofun, nofun, nofun, nofun, ?_, nofun, fun _ => rfl⟩, rfl⟩, sending_inv⟩
  rintro (⟨h, -⟩ | h) <;> cases h

end Sys2Proof.Tests
end

section
/-! The decoder read backwards, and the fields of a frame that a dispatch reads. -/

namespace Sys2Proof

/-- The frames that decode, and to what (R59, R63). -/
theorem decodeFrame_eq_ok_iff (m : CmdMode) (w : Frame) (i : Instr) :
    decodeFrame m w = .ok i ↔ w.wellFormed = true ∧ i = selectCommand m (frameNumber w) (frameFields w) := by
  cases hs : w.startBitOk <;> cases hb : w.secondBitOk <;>
    simp [decodeFrame, Frame.wellFormed, hs, hb, eq_comm]

/-- A field of a field is a field of the whole. -/
theorem extractLsb'_extractLsb' {n : Nat} (x : BitVec n) (a len b len' : Nat) (h : b + len' ≤ len) :
    (x.extractLsb' a len).extractLsb' b len' = x.extractLsb' (a + b) len' := by
  ext k _
  simp [show b + k < len by omega, Nat.add_assoc]

/-- The command number lies in the upper 40 bits of a frame (R59). -/
theorem frameNumber_eq_extractLsb' (w : Frame) : frameNumber w = (w.extractLsb' 8 40).extractLsb' 32 6 :=
  (extractLsb'_extractLsb' w 8 40 32 6 (by decide)).symm

/-- The argument lies in the upper 40 bits of a frame (R59). -/
theorem frameFields_arg_eq_extractLsb' (w : Frame) : (frameFields w).arg = (w.extractLsb' 8 40).extractLsb' 0 32 :=
  (extractLsb'_extractLsb' w 8 40 0 32 (by decide)).symm

end Sys2Proof

namespace Sys2Proof.Machine

/-- Another checksum and another last bit in a command do not change its effect: only CMD16 and CMD17 read a field, and
they read the argument (R5, R93). -/
theorem exec_selectCommand_self (i : Instr) (checksum : BitVec 7) (discarded : Bool) (s : State) :
    exec (selectCommand i.mode i.number ⟨i.fields.arg, checksum, discarded⟩) s = exec i s := by
  cases i with
  | cmd16 f | cmd17 f => rfl
  | _ => rfl

/-- The effect of a command depends on its mode, its number and its argument alone (R93). -/
theorem exec_congr {i j : Instr} (hmode : i.mode = j.mode) (hnumber : i.number = j.number)
    (harg : i.fields.arg = j.fields.arg) (s : State) : exec i s = exec j s := by
  rw [← exec_selectCommand_self i 0 false, ← exec_selectCommand_self j 0 false, hmode, hnumber, harg]

/-- Settles O19: number and argument lie in the upper 40 bits, and a dispatch reads nothing else of a frame. -/
theorem checksumIsNeverExamined : Obligations.ChecksumIsNeverExamined := by
  intro m w v i j s hupper hi hj
  obtain ⟨-, rfl⟩ := (decodeFrame_eq_ok_iff m w i).1 hi
  obtain ⟨-, rfl⟩ := (decodeFrame_eq_ok_iff m v j).1 hj
  obtain ⟨hmode, hnumber, hfields⟩ := selectCommand_spec m (frameNumber w) (frameFields w)
  obtain ⟨hmode', hnumber', hfields'⟩ := selectCommand_spec m (frameNumber v) (frameFields v)
  apply exec_congr
  · rw [hmode, hmode']
  · rw [hnumber, hnumber', frameNumber_eq_extractLsb', frameNumber_eq_extractLsb', hupper]
  · rw [hfields, hfields', frameFields_arg_eq_extractLsb', frameFields_arg_eq_extractLsb', hupper]

end Sys2Proof.Machine
end

section
/-! Everything a step can do, and everything a dispatch can do in terms of the registers it reads. -/

namespace Sys2Proof.Machine

/-- Everything a step can do: reset the block, lend a buffer, one bit-time at a selected edge, or nothing but take an
operation from the queue, answer, and let another peripheral write the flip-flop. -/
theorem step_cases {s t : State} (ht : step s = .next t) :
    (∃ rest, s.inputs = .reset :: rest ∧ t = resetBlock { s with inputs := rest }) ∨
    (∃ bytes rest, s.inputs = .provide bytes :: rest ∧ (bytes.length = 512 ∧ s.pending = true ∧ s.inUse = false) ∧
      t = { lendBuffer bytes s with inputs := rest, reply := .provide true }) ∨
    (∃ ctrl rest, s.inputs = .edge ctrl :: rest ∧ cardSelected ctrl = true ∧
      bitTime (mosi ctrl) { s with inputs := rest } = .next t) ∨
    t = { s with inputs := t.inputs, reply := t.reply, miso := t.miso } := by
  rcases step_eq_next ht with ⟨-, rfl⟩ | ⟨e, rest, he, hp⟩
  · exact .inr (.inr (.inr rfl))
  cases e with
  | edge ctrl =>
    cases hsel : cardSelected ctrl with
    | true => exact .inr (.inr (.inl ⟨ctrl, rest, he, hsel, by rwa [← edge_of_selected _ _ hsel]⟩))
    | false =>
      rw [perform, edge_of_deselected _ _ hsel] at hp
      cases hp; exact .inr (.inr (.inr rfl))
  | provide bytes =>
    cases hp
    rcases provide_cases bytes { s with inputs := rest } with ⟨hacc, hstate⟩ | ⟨-, hstate⟩ <;> rw [hstate]
    · exact .inr (.inl ⟨bytes, rest, he, hacc, rfl⟩)
    · exact .inr (.inr (.inr rfl))
  | reset => cases hp; exact .inl ⟨rest, he, rfl⟩
  | otherWrite ctrl b =>
    cases hsel : cardSelected ctrl <;> simp only [perform, otherWrite, hsel] at hp <;> cases hp
    exact .inr (.inr (.inr rfl))
  | poll | inUse | probe => cases hp; exact .inr (.inr (.inr rfl))

/-- Everything the dispatch of the command received can do, by the registers that select it (R93 to R104). -/
theorem dispatch_cases {b : Bool} {s u : State} (hu : exec (dispatchedCommand b s) s = .next u) :
    (s.appCommand = false ∧ s.cmd = 0#6 ∧
      u = { s with appCommand := false, invalidCommand := false, idleFlag := true }) ∨
    (s.cmd ≠ 17#6 ∧ u = { s with appCommand := false, invalidCommand := false }) ∨
    (s.appCommand = false ∧ s.cmd = 17#6 ∧
      u = { s with
        appCommand := false
        invalidCommand := false
        blockAddress := blockAddressOf Config.addrWidth s.arg
        pending := true
        crc := Config.crcSeed }) ∨
    (s.cmd = 55#6 ∧ u = { s with appCommand := true, invalidCommand := false }) ∨
    (s.appCommand = true ∧ s.cmd = 41#6 ∧
      u = { s with appCommand := false, invalidCommand := false, idleFlag := false }) ∨
    u = { s with appCommand := false, invalidCommand := true } := by
  obtain ⟨hmode, hnumber, hfields⟩ := dispatchedCommand_spec b s
  have hcmd : decodeMode s = .cmd → s.appCommand = false := by cases h : s.appCommand <;> simp [decodeMode, h]
  have hacmd : decodeMode s = .acmd → s.appCommand = true := by cases h : s.appCommand <;> simp [decodeMode, h]
  have hcases := exec_cases (dispatchedCommand b s) s
  simp only [hmode, hnumber, hfields, hu, Host.Outcome.next.injEq] at hcases
  rcases hcases with ⟨hm, hn, h⟩ | ⟨-, hn, h⟩ | ⟨hm, hn, h⟩ | ⟨-, hn, h⟩ | ⟨hm, hn, h⟩ | ⟨-, h⟩
  · exact .inl ⟨hcmd hm, hn, h⟩
  · refine .inr (.inl ⟨?_, h⟩)
    rcases hn with hn | hn | ⟨hn, -⟩ <;> rw [hn] <;> decide
  · exact .inr (.inr (.inl ⟨hcmd hm, hn, h⟩))
  · exact .inr (.inr (.inr (.inl ⟨hn, h⟩)))
  · exact .inr (.inr (.inr (.inr (.inl ⟨hacmd hm, hn, h⟩))))
  · exact .inr (.inr (.inr (.inr (.inr h))))

end Sys2Proof.Machine
end

section
/-! The invariants as one assertion per state of the sequencer (10_state.md R34), and how the register operations move
between the assertions. -/

namespace Sys2Proof.Machine

/-- Nothing is requested and nothing is lent. -/
def Quiet (s : State) : Prop := s.pending = false ∧ s.inUse = false ∧ s.buf = []

/-- A block is requested and not yet lent (R22). -/
def Requested (s : State) : Prop := s.pending = true ∧ s.inUse = false ∧ s.buf = []

/-- A whole buffer is lent, and the cursor is somewhere in it (R24 to R26). -/
def Lent (s : State) : Prop :=
  s.pending = false ∧ s.inUse = true ∧ s.buf.isBlock = true ∧ s.bufPos.toNat + s.remaining.toNat = 512

/-- A read waits for its token: its block is requested, or lent with nothing of it sent (R53). -/
def Awaiting (s : State) : Prop := Requested s ∨ (Lent s ∧ s.remaining = 512#10)

theorem Awaiting.lent {s : State} (h : Awaiting s) (hu : s.inUse = true) : Lent s ∧ s.remaining = 512#10 :=
  h.resolve_left fun ⟨_, hu', _⟩ => by simp [hu] at hu'

theorem Awaiting.requested {s : State} (h : Awaiting s) (hu : s.inUse = false) : Requested s :=
  h.resolve_right fun ⟨⟨_, hu', _⟩, _⟩ => by simp [hu] at hu'

/-- The assertion of each state of the sequencer, about the registers beside `state` and `bitcount`. -/
def Phase (st : CardState) (s : State) : Prop :=
  match st with
  | .idle | .recvBit1 | .recvCmdNr | .recvArg | .recvChecksum =>
    Quiet s ∧ (s.appCommand = true → s.invalidCommand = false)
  | .sendResponse =>
    (readAccepted s → s.appCommand = false ∧ Awaiting s) ∧
    (¬readAccepted s → Quiet s ∧ (s.appCommand = true → s.invalidCommand = false ∧ s.cmd = 55#6))
  | .sendIfCond | .sendOcr => s.appCommand = false ∧ Quiet s
  | .waitRead => readAccepted s ∧ s.appCommand = false ∧ Awaiting s
  | .sendStart => readAccepted s ∧ s.appCommand = false ∧ Lent s ∧ s.remaining = 512#10
  | .sendData => readAccepted s ∧ s.appCommand = false ∧ Lent s ∧ 1 ≤ s.remaining.toNat
  | .sendCrc => readAccepted s ∧ s.appCommand = false ∧ Lent s ∧ s.remaining = 0#10

/-- A lent buffer is lent alone, whole, and with its cursor inside it (R34 I4, R28). -/
theorem Inv.lent {s : State} (h : Inv s) (hu : s.inUse = true) : Lent s :=
  have ⟨hp, _, hsum⟩ := h.borrowWindow hu
  ⟨hp, hu, h.bufferLent hu, hsum⟩

/-- Outside of a read nothing is requested and nothing is lent (R34 I3, I4). -/
theorem Inv.quiet {s : State} (h : Inv s) (hresp : ¬(s.state = .sendResponse ∧ readAccepted s))
    (htransfer : inTransfer s.state = false) : Quiet s := by
  have hwait : s.state ≠ .waitRead := fun hs => by simp [hs, inTransfer] at htransfer
  have hu : s.inUse = false := by
    by_contra hu
    obtain ⟨-, hwindow, -⟩ := h.borrowWindow (by simpa using hu)
    simp [hresp, htransfer] at hwindow
  have hp : s.pending = false := by
    by_contra hp
    obtain ⟨-, hwindow⟩ := h.pendingWindow (by simpa using hp)
    simp [hresp, hwait] at hwindow
  exact ⟨hp, hu, h.bufferFree hu⟩

/-- Until the token the read is requested or granted, and nothing has been sent (R53, R34 I5). -/
theorem Inv.awaiting {s : State} (h : Inv s) (hs : (s.state = .sendResponse ∧ readAccepted s) ∨ s.state = .waitRead) :
    Awaiting s := by
  cases hu : s.inUse with
  | true => exact .inr ⟨h.lent hu, h.cursorAtStart hu (hs.imp_right .inl)⟩
  | false => exact .inl ⟨by simpa [hu] using h.readServed hs, hu, h.bufferFree hu⟩

/-- The mode flag is clear once a response other than CMD55's is under way (R34 I8). -/
theorem Inv.appCommand_eq_false {s : State} (h : Inv s) (hbefore : beforeDispatch s.state = false)
    (hresp : ¬(s.state = .sendResponse ∧ s.cmd = 55#6)) : s.appCommand = false := by
  by_contra ha
  obtain ⟨-, hwindow⟩ := h.appCommandWindow (by simpa using ha)
  simp [hbefore, hresp] at hwindow

/-- The invariants where nothing is requested and nothing is lent. -/
theorem Inv.of_quiet {s : State} (hcount : s.bitcount.toNat ≤ lastBit s.state) (hq : Quiet s)
    (hresp : ¬(s.state = .sendResponse ∧ readAccepted s)) (htransfer : inTransfer s.state = false)
    (happ : s.appCommand = true → s.invalidCommand = false ∧
      (beforeDispatch s.state = true ∨ (s.state = .sendResponse ∧ s.cmd = 55#6))) : Inv s := by
  obtain ⟨hp, hu, hb⟩ := hq
  have hnot : ∀ st, inTransfer st = true → s.state ≠ st := fun st hst hs => by simp [hs, hst] at htransfer
  exact {
    bitcountInRange := hcount
    pendingWindow := by simp [hp]
    borrowWindow := by simp [hu]
    cursorAtStart := by simp [hu]
    tokenBorrowed := fun hs => absurd hs (hnot _ rfl)
    dataBorrowed := fun hs => absurd hs (hnot _ rfl)
    crcBorrowed := fun hs => absurd hs (hnot _ rfl)
    transferOfRead := by simp [htransfer]
    appCommandWindow := happ
    readServed := fun hs => absurd hs (not_or.2 ⟨hresp, hnot _ rfl⟩)
    bufferLent := by simp [hu]
    bufferFree := fun _ => hb }

/-- The invariants between the acceptance of a read and its token. -/
theorem Inv.of_awaiting {s : State} (hcount : s.bitcount.toNat ≤ lastBit s.state) (ha : Awaiting s)
    (hread : readAccepted s) (hs : s.state = .sendResponse ∨ s.state = .waitRead) (happ : s.appCommand = false) :
    Inv s := by
  have hwindow : (s.state = .sendResponse ∧ readAccepted s) ∨ s.state = .waitRead := hs.imp_left (⟨·, hread⟩)
  have hnot : ∀ st, st ≠ .sendResponse → st ≠ .waitRead → s.state ≠ st := by
    rintro st hresp hwait rfl; exact hs.elim hresp hwait
  have hexclusive : s.pending = true → s.inUse = false := by
    rcases ha with ⟨-, hu, -⟩ | ⟨⟨hp, -⟩, -⟩ <;> simp [*]
  have hserved : s.pending = true ∨ s.inUse = true := ha.imp (·.1) (·.1.2.1)
  exact {
    bitcountInRange := hcount
    pendingWindow := fun hp => ⟨hexclusive hp, hwindow⟩
    borrowWindow := fun hu =>
      have ⟨⟨hp, _, _, hsum⟩, _⟩ := ha.lent hu
      ⟨hp, hwindow.imp_right fun h => by simp [h, inTransfer], hsum⟩
    cursorAtStart := fun hu _ => (ha.lent hu).2
    tokenBorrowed := fun hs => absurd hs (hnot _ nofun nofun)
    dataBorrowed := fun hs => absurd hs (hnot _ nofun nofun)
    crcBorrowed := fun hs => absurd hs (hnot _ nofun nofun)
    transferOfRead := fun _ => hread
    appCommandWindow := by simp [happ]
    readServed := fun _ => hserved
    bufferLent := fun hu =>
      have ⟨⟨_, _, hblock, _⟩, _⟩ := ha.lent hu
      hblock
    bufferFree := fun hu =>
      have ⟨_, _, hbuf⟩ := ha.requested hu
      hbuf }

/-- The invariants from the token to the last CRC bit. -/
theorem Inv.of_lent {s : State} (hcount : s.bitcount.toNat ≤ lastBit s.state) (hl : Lent s) (hread : readAccepted s)
    (hs : (s.state = .sendStart ∧ s.remaining = 512#10) ∨ (s.state = .sendData ∧ 1 ≤ s.remaining.toNat) ∨
      (s.state = .sendCrc ∧ s.remaining = 0#10)) (happ : s.appCommand = false) : Inv s := by
  obtain ⟨hp, hu, hb, hsum⟩ := hl
  exact {
    bitcountInRange := hcount
    pendingWindow := by simp [hp]
    borrowWindow := fun _ => ⟨hp, .inr (by rcases hs with ⟨h, -⟩ | ⟨h, -⟩ | ⟨h, -⟩ <;> simp [h, inTransfer]), hsum⟩
    cursorAtStart := fun _ hann => by
      rcases hs with ⟨-, hr⟩ | ⟨h, -⟩ | ⟨h, -⟩
      · exact hr
      all_goals simp [readAnnounced, h] at hann
    tokenBorrowed := fun _ => hu
    dataBorrowed := fun hd => ⟨hu, by simpa [hd] using hs⟩
    crcBorrowed := fun hc => ⟨hu, by simpa [hc] using hs⟩
    transferOfRead := fun _ => hread
    appCommandWindow := by simp [happ]
    readServed := fun _ => .inr hu
    bufferLent := fun _ => hb
    bufferFree := by simp [hu] }

/-- The invariants give the assertion of the current state. -/
theorem Inv.phase {s : State} (h : Inv s) : Phase s.state s := by
  cases hst : s.state <;> simp only [Phase]
  case idle | recvBit1 | recvCmdNr | recvArg | recvChecksum =>
    exact ⟨h.quiet (by simp [hst]) (by simp [hst, inTransfer]), fun ha => (h.appCommandWindow ha).1⟩
  case sendIfCond | sendOcr =>
    exact ⟨h.appCommand_eq_false (by simp [hst, beforeDispatch]) (by simp [hst]),
      h.quiet (by simp [hst]) (by simp [hst, inTransfer])⟩
  case sendResponse =>
    constructor <;> intro hr
    · exact ⟨h.appCommand_eq_false (by simp [hst, beforeDispatch]) (by simp [hr.1]), h.awaiting (.inl ⟨hst, hr⟩)⟩
    · refine ⟨h.quiet (by simp [hst, hr]) (by simp [hst, inTransfer]), fun ha => ?_⟩
      obtain ⟨hvalid, hwindow⟩ := h.appCommandWindow ha
      exact ⟨hvalid, by simpa [hst, beforeDispatch] using hwindow⟩
  all_goals
    refine ⟨h.transferOfRead (by simp [hst, inTransfer]), ?_, ?_⟩
    · exact h.appCommand_eq_false (by simp [hst, beforeDispatch]) (by simp [hst])
  case waitRead => exact h.awaiting (.inr hst)
  case sendStart => exact ⟨h.lent (h.tokenBorrowed hst), h.cursorAtStart (h.tokenBorrowed hst) (.inr (.inr hst))⟩
  case sendData => exact ⟨h.lent (h.dataBorrowed hst).1, (h.dataBorrowed hst).2⟩
  case sendCrc => exact ⟨h.lent (h.crcBorrowed hst).1, (h.crcBorrowed hst).2⟩

/-- The invariants are the range of `bitcount` and the assertion of the current state. -/
theorem inv_iff (s : State) : Inv s ↔ s.bitcount.toNat ≤ lastBit s.state ∧ Phase s.state s := by
  refine ⟨fun h => ⟨h.bitcountInRange, h.phase⟩, fun ⟨hcount, hphase⟩ => ?_⟩
  cases hst : s.state <;> simp only [hst, Phase] at hphase
  case idle | recvBit1 | recvCmdNr | recvArg | recvChecksum =>
    obtain ⟨hq, happ⟩ := hphase
    exact .of_quiet hcount hq (by simp [hst]) (by simp [hst, inTransfer])
      fun ha => ⟨happ ha, .inl (by simp [hst, beforeDispatch])⟩
  case sendIfCond | sendOcr =>
    obtain ⟨happ, hq⟩ := hphase
    exact .of_quiet hcount hq (by simp [hst]) (by simp [hst, inTransfer]) (by simp [happ])
  case sendResponse =>
    obtain ⟨hread, hother⟩ := hphase
    by_cases hr : readAccepted s
    · obtain ⟨happ, ha⟩ := hread hr
      exact .of_awaiting hcount ha hr (.inl hst) happ
    · obtain ⟨hq, happ⟩ := hother hr
      exact .of_quiet hcount hq (by simp [hr]) (by simp [hst, inTransfer])
        fun ha => ⟨(happ ha).1, .inr ⟨hst, (happ ha).2⟩⟩
  all_goals obtain ⟨hr, happ, hblock⟩ := hphase
  case waitRead => exact .of_awaiting hcount hblock hr (.inr hst) happ
  case sendStart => exact .of_lent hcount hblock.1 hr (.inl ⟨hst, hblock.2⟩) happ
  case sendData => exact .of_lent hcount hblock.1 hr (.inr (.inl ⟨hst, hblock.2⟩)) happ
  case sendCrc => exact .of_lent hcount hblock.1 hr (.inr (.inr ⟨hst, hblock.2⟩)) happ

theorem Inv.phase_at {s : State} {st : CardState} (h : Inv s) (hst : s.state = st) : Phase st s := hst ▸ h.phase

theorem Inv.bitcount_at {s : State} {st : CardState} (h : Inv s) (hst : s.state = st) :
    s.bitcount.toNat ≤ lastBit st := hst ▸ h.bitcountInRange

theorem inv_of_phase {s : State} {st : CardState} (hst : s.state = st) (hcount : s.bitcount.toNat ≤ lastBit st)
    (hphase : Phase st s) : Inv s := by
  subst hst; exact (inv_iff s).2 ⟨hcount, hphase⟩

/-- Entering a field starts its count, so only the assertion of the state entered is left to show (R15). -/
theorem inv_enter {st : CardState} {s : State} (h : Phase st s) : Inv (enter st s) :=
  inv_of_phase rfl (Nat.zero_le _) h

theorem Inv.after_drive {s : State} (h : Inv s) (b : Bool) : Inv (drive b s) := { h with }

/-- A bit-time before the last one of its field keeps the invariants (R15). -/
theorem Inv.after_countBit {s : State} (h : Inv s) (hlt : s.bitcount.toNat < lastBit s.state) : Inv (countBit s) := by
  have hcount : (s.bitcount + 1#6).toNat ≤ lastBit s.state := by bv_omega
  exact inv_of_phase rfl hcount h.phase

/-- One more bit-time of a field keeps the invariants, if what follows its last one (`u`) meets them (R15). -/
theorem Inv.count {s u : State} (h : Inv s) {n : BitVec 6} (hn : n.toNat = lastBit s.state + 1) (hu : Inv u) :
    Inv (if (countBit s).bitcount = n then u else countBit s) := by
  split
  · exact hu
  · next hne =>
    have hcount := h.bitcountInRange
    rw [countBit_bitcount] at hne
    exact h.after_countBit (by bv_omega)

/-! ### The framer -/

theorem Inv.after_idleStep {s : State} (h : Inv s) (hst : s.state = .idle) (b : Bool) : Inv (idleStep b s) := by
  cases b with
  | true => exact h.after_drive true
  | false => exact inv_of_phase (st := .recvBit1) rfl (h.bitcount_at (st := .idle) hst) (h.phase_at hst)

theorem Inv.after_recvBit1Step {s : State} (h : Inv s) (hst : s.state = .recvBit1) (b : Bool) :
    Inv (recvBit1Step b s) := by
  cases b with
  | true => exact inv_enter (h.phase_at hst)
  | false => exact inv_of_phase (st := .idle) rfl (h.bitcount_at (st := .recvBit1) hst) (h.phase_at hst)

theorem Inv.after_recvCmdNrStep {s : State} (h : Inv s) (hst : s.state = .recvCmdNr) (b : Bool) :
    Inv (recvCmdNrStep b s) := by
  have hshift : Inv { s with cmd := shiftIn s.cmd b } := inv_of_phase hst (h.bitcount_at hst) (h.phase_at hst)
  exact hshift.count (by simp [hst, lastBit]) (inv_enter (h.phase_at hst))

theorem Inv.after_recvArgStep {s : State} (h : Inv s) (hst : s.state = .recvArg) (b : Bool) : Inv (recvArgStep b s) :=
  have hshift : Inv { s with arg := shiftIn s.arg b } := { h with }
  hshift.count (by simp [hst, lastBit]) (inv_enter (h.phase_at hst))

/-- The response byte of a command that requests no block begins with nothing requested or lent. -/
theorem Quiet.phase_sendResponse {s : State} (h : Quiet s) (hr : ¬readAccepted s)
    (happ : s.appCommand = true → s.invalidCommand = false ∧ s.cmd = 55#6) : Phase .sendResponse s :=
  ⟨fun hr' => absurd hr' hr, fun _ => ⟨h, happ⟩⟩

/-- Every dispatch leaves what its response byte begins with: CMD17 has requested a block, no other command has
(R93 to R104). -/
theorem phase_dispatch {b : Bool} {s u : State} (h : Phase .recvChecksum s)
    (hu : exec (dispatchedCommand b s) s = .next u) : Phase .sendResponse u := by
  obtain ⟨hquiet, -⟩ := h
  have ⟨_, hfree, hbuf⟩ := hquiet
  rcases dispatch_cases hu with ⟨-, hcmd, rfl⟩ | ⟨hcmd, rfl⟩ | ⟨-, hcmd, rfl⟩ | ⟨hcmd, rfl⟩ | ⟨-, hcmd, rfl⟩ | rfl
  · exact Quiet.phase_sendResponse hquiet (by simp [hcmd]) (by simp)
  · exact Quiet.phase_sendResponse hquiet (by simp [hcmd]) (by simp)
  · exact ⟨fun _ => ⟨rfl, .inl ⟨rfl, hfree, hbuf⟩⟩, fun hr => absurd ⟨hcmd, rfl⟩ hr⟩
  · exact Quiet.phase_sendResponse hquiet (by simp [hcmd]) (by simp [hcmd])
  · exact Quiet.phase_sendResponse hquiet (by simp [hcmd]) (by simp)
  · exact Quiet.phase_sendResponse hquiet (by simp) (by simp)

/-- The eight bit-times of RecvChecksum: seven shift, the eighth is discarded and dispatches (R86). -/
theorem Inv.after_recvChecksumStep {b : Bool} {s t : State} (h : Inv s) (hst : s.state = .recvChecksum)
    (ht : recvChecksumStep b s = .next t) : Inv t := by
  by_cases h7 : s.bitcount = 7#6
  · rw [recvChecksumStep_dispatch b s h7] at ht
    obtain ⟨u, hu, rfl⟩ := (andThen_eq_next _ _ _).1 ht
    exact inv_enter (phase_dispatch (h.phase_at hst) hu)
  · have hlt : s.bitcount.toNat < lastBit s.state := by
      have hcount : s.bitcount.toNat ≤ 7 := h.bitcount_at hst
      have hlast : lastBit s.state = 7 := by rw [hst]; rfl
      bv_omega
    have h8 : ¬(countBit s).bitcount = 8#6 := by rw [countBit_bitcount]; bv_omega
    have hshift : Inv { s with checksum := shiftIn s.checksum b } := { h with }
    simp only [recvChecksumStep, h8, if_false] at ht
    split at ht <;> cases ht
    · exact hshift.after_countBit hlt
    · exact h.after_countBit hlt

/-! ### The response formatter -/

/-- The response byte may end in Idle when nothing is requested or lent. -/
theorem Quiet.phase_tail {s : State} (h : Quiet s) (hr : ¬readAccepted s)
    (happ : s.appCommand = true → s.invalidCommand = false ∧ s.cmd = 55#6) : Phase (tail s) s := by
  have hflag : s.cmd ≠ 55#6 → s.appCommand = false := fun hc => by
    by_contra ha; exact hc (happ (by simpa using ha)).2
  unfold tail
  split
  · exact ⟨h, fun ha => (happ ha).1⟩
  split
  · next hc => exact ⟨hflag (by rw [hc]; decide), h⟩
  split
  · next hc => exact ⟨hflag (by rw [hc]; decide), h⟩
  split
  · next hvalid _ _ hc => exact absurd ⟨hc, by simpa using hvalid⟩ hr
  · exact ⟨h, fun ha => (happ ha).1⟩

/-- What follows the response byte may begin (R108). -/
theorem phase_tail {s : State} (h : Phase .sendResponse s) : Phase (tail s) s := by
  obtain ⟨hread, hother⟩ := h
  by_cases hr : readAccepted s
  · have htail : tail s = .waitRead := by simp [tail, hr.1, hr.2]
    rw [htail]; exact ⟨hr, hread hr⟩
  · obtain ⟨hquiet, happ⟩ := hother hr
    exact hquiet.phase_tail hr happ

theorem Inv.after_sendResponseStep {s : State} (h : Inv s) (hst : s.state = .sendResponse) : Inv (sendResponseStep s) :=
  have htail : Phase (tail s) s := phase_tail (h.phase_at hst)
  (h.after_drive _).count (by simp [hst, lastBit]) (inv_enter htail)

/-- A tail that ends, ends in Idle with the mode flag clear (R109, R110). -/
theorem Inv.enter_idle_of_tail {s : State} (hphase : Phase .sendOcr s) : Inv (enter .idle s) :=
  have ⟨happ, hquiet⟩ := hphase
  inv_enter ⟨hquiet, by simp [happ]⟩

theorem Inv.after_sendIfCondStep {s t : State} (h : Inv s) (hst : s.state = .sendIfCond)
    (ht : sendIfCondStep s = .next t) : Inv t := by
  unfold sendIfCondStep at ht
  split at ht
  · cases ht
  · cases ht
    exact (h.after_drive _).count (by simp [hst, lastBit]) (.enter_idle_of_tail (h.phase_at hst))

theorem Inv.after_sendOcrStep {s : State} (h : Inv s) (hst : s.state = .sendOcr) : Inv (sendOcrStep s) :=
  have hphase := h.phase_at hst
  (h.after_drive false).count (by simp [hst, lastBit]) (.enter_idle_of_tail hphase)

/-! ### The block-transfer sequencer -/

/-- The exit test of WaitRead finds a buffer of which nothing has been sent (R115). -/
theorem Inv.exitWait {s : State} (h : Inv s) (hst : s.state = .waitRead) :
    Inv (if s.bitcount = 8#6 ∧ s.inUse = true then enter .sendStart s else s) := by
  have ⟨hr, happ, ha⟩ := h.phase_at hst
  split
  · next hexit => exact inv_enter ⟨hr, happ, ha.lent hexit.2⟩
  · exact h

theorem Inv.after_waitReadStep {s : State} (h : Inv s) (hst : s.state = .waitRead) : Inv (waitReadStep s) := by
  by_cases hlt : s.bitcount < 8#6 <;> simp only [waitReadStep, drive_bitcount, hlt, if_true, if_false]
  · have hcounted := (h.after_drive true).after_countBit (by simpa [hst, lastBit, BitVec.lt_def] using hlt)
    exact hcounted.exitWait hst
  · exact (h.after_drive true).exitWait hst

theorem Inv.after_sendStartStep {s : State} (h : Inv s) (hst : s.state = .sendStart) : Inv (sendStartStep s) := by
  have ⟨hr, happ, hlent, hrem⟩ := h.phase_at hst
  have hdata : Phase .sendData s := ⟨hr, happ, hlent, by simp [hrem]⟩
  exact (h.after_drive _).count (by simp [hst, lastBit]) (inv_enter hdata)

theorem Inv.after_sendDataStep {s t : State} (h : Inv s) (hst : s.state = .sendData) (ht : sendDataStep s = .next t) :
    Inv t := by
  rcases sendDataStep_cases s with ⟨-, e⟩ | ⟨-, e⟩ | ⟨byte, -, hlt, e⟩ | ⟨byte, -, -, e⟩ <;> rw [e] at ht <;> cases ht
  · exact (h.after_drive _).after_countBit (by simpa [hst, lastBit] using hlt)
  · have ⟨hr, happ, ⟨hp, hu, hb, hsum⟩, hrem⟩ := h.phase_at hst
    have hlent : Lent (advanceCursor byte (drive (byte.getMsbD 7) s)) :=
      have hsum' : (s.bufPos + 1#10).toNat + (s.remaining - 1#10).toNat = 512 := by bv_omega
      ⟨hp, hu, hb, hsum'⟩
    split
    · next hlast => exact inv_of_phase (st := .sendCrc) rfl (Nat.zero_le _) ⟨hr, happ, hlent, hlast⟩
    · next hmore =>
      have hleft : 1 ≤ (s.remaining - 1#10).toNat := by bv_omega
      exact inv_of_phase (st := .sendData) hst (Nat.zero_le _) ⟨hr, happ, hlent, hleft⟩

theorem Inv.after_sendCrcStep {s t : State} (h : Inv s) (hst : s.state = .sendCrc) (ht : sendCrcStep s = .next t) :
    Inv t := by
  unfold sendCrcStep at ht
  split at ht
  · cases ht
  · cases ht
    have ⟨_, happ, ⟨hp, _⟩, _⟩ := h.phase_at hst
    exact (h.after_drive _).count (by simp [hst, lastBit]) (inv_enter ⟨⟨hp, rfl, rfl⟩, by simp [happ]⟩)

/-! ### Every operation of every agent -/

/-- A bit-time keeps the invariants, whatever the state of the sequencer (R81). -/
theorem Inv.after_bitTime {b : Bool} {s t : State} (h : Inv s) (ht : bitTime b s = .next t) : Inv t := by
  cases hst : s.state <;> simp only [bitTime, hst] at ht
  case recvChecksum => exact h.after_recvChecksumStep hst ht
  case sendIfCond => exact h.after_sendIfCondStep hst ht
  case sendData => exact h.after_sendDataStep hst ht
  case sendCrc => exact h.after_sendCrcStep hst ht
  all_goals cases ht
  case idle => exact h.after_idleStep hst b
  case recvBit1 => exact h.after_recvBit1Step hst b
  case recvCmdNr => exact h.after_recvCmdNrStep hst b
  case recvArg => exact h.after_recvArgStep hst b
  case sendResponse => exact h.after_sendResponseStep hst
  case waitRead => exact h.after_waitReadStep hst
  case sendOcr => exact h.after_sendOcrStep hst
  case sendStart => exact h.after_sendStartStep hst

/-- Lending a whole buffer to a read that waits keeps the invariants (R125). -/
theorem Inv.after_lendBuffer {s : State} {bytes : List Byte} (h : Inv s) (hlen : bytes.length = 512)
    (hp : s.pending = true) : Inv (lendBuffer bytes s) := by
  obtain ⟨-, hwindow⟩ := h.pendingWindow hp
  have hlent : Lent (lendBuffer bytes s) := ⟨rfl, rfl, Memory.isBlock_ofBytes bytes hlen, rfl⟩
  rcases hwindow with ⟨hst, hr⟩ | hst
  · obtain ⟨happ, -⟩ := (h.phase_at hst).1 hr
    exact .of_awaiting h.bitcountInRange (.inr ⟨hlent, rfl⟩) hr (.inl hst) happ
  · obtain ⟨hr, happ, -⟩ := h.phase_at hst
    exact .of_awaiting h.bitcountInRange (.inr ⟨hlent, rfl⟩) hr (.inr hst) happ

/-- A reset establishes the invariants, from any state (R161). -/
theorem inv_resetBlock (s : State) : Inv (resetBlock s) :=
  inv_of_phase (st := .idle) rfl (Nat.le_refl 0) ⟨⟨rfl, rfl, rfl⟩, nofun⟩

/-- Settles O53: `Inv` is one assertion per state of the sequencer, and each operation leads from the assertion of the
state it leaves to that of the state it enters. -/
theorem stepKeepsInvariants : Obligations.StepKeepsInvariants := by
  intro s t h ht
  rcases step_cases ht with ⟨rest, -, rfl⟩ | ⟨bytes, rest, -, ⟨hlen, hp, -⟩, rfl⟩ | ⟨ctrl, rest, -, -, hbit⟩ | hsame
  · exact inv_resetBlock _
  · exact { h.after_lendBuffer hlen hp with }
  · have hs : Inv { s with inputs := rest } := { h with }
    exact hs.after_bitTime hbit
  · rw [hsame]; exact { h with }

end Sys2Proof.Machine
end

section
/-! Who writes which register (10_state.md R14, R20, R22, R24, R27, R28). -/

namespace Sys2Proof.Machine

/-- Of the registers a read uses, a dispatch writes only the request and the CRC's seed, and only for CMD17 (R99). -/
theorem dispatch_read_registers {b : Bool} {s u : State} (hu : exec (dispatchedCommand b s) s = .next u) :
    u.inUse = s.inUse ∧ u.buf = s.buf ∧
      ((u.pending = s.pending ∧ u.crc = s.crc) ∨
        (s.appCommand = false ∧ s.cmd = 17#6 ∧ u.pending = true ∧ u.crc = Config.crcSeed)) := by
  rcases dispatch_cases hu with ⟨-, -, rfl⟩ | ⟨-, rfl⟩ | ⟨happ, hcmd, rfl⟩ | ⟨-, rfl⟩ | ⟨-, -, rfl⟩ | rfl
  case inr.inr.inl => exact ⟨rfl, rfl, .inr ⟨happ, hcmd, rfl, rfl⟩⟩
  all_goals exact ⟨rfl, rfl, .inl ⟨rfl, rfl⟩⟩

/-- What a step can do to the registers with few writers: a reset, an accepted `Provide`, a dispatch, the end of a data
byte and the last CRC bit write them, and every other step leaves them alone. -/
theorem step_writers {s t : State} (ht : step s = .next t) :
    resetNext s ∨
    (acceptedProvideNext s ∧ ∃ bytes rest, t = { lendBuffer bytes s with inputs := rest, reply := .provide true }) ∨
    (dispatching s ∧ ∃ b rest u,
      exec (dispatchedCommand b { s with inputs := rest }) { s with inputs := rest } = .next u ∧
      t = enter .sendResponse u) ∨
    (t.idleFlag = s.idleFlag ∧ t.pending = s.pending ∧
      (t.crc = s.crc ∨ (selectedEdgeNext s ∧ s.state = .sendData ∧ s.bitcount = 7#6 ∧
        ∃ byte, s.buf.read s.bufPos.toNat = some byte ∧ t.crc = crc16Step s.crc byte)) ∧
      ((t.inUse = s.inUse ∧ t.buf = s.buf) ∨
        (lastCrcBitNext s ∧ t.inUse = false ∧ t.state = .idle ∧ t.miso = s.crc.getLsbD 0))) := by
  rcases step_cases ht with ⟨rest, hin, -⟩ | ⟨bytes, rest, hin, hacc, h⟩ | ⟨ctrl, rest, hin, hsel, hbit⟩ | hsame
  · exact .inl ⟨rest, hin⟩
  · exact .inr (.inl ⟨⟨bytes, rest, hin, hacc⟩, bytes, rest, h⟩)
  · have hedge : selectedEdgeNext s := ⟨ctrl, rest, hin, hsel⟩
    rcases bitTime_cases hbit with ⟨hst, hb, u, hu, h⟩ | ⟨-, hidle, -, hpending, -, -, -, -, hcrc, hborrow, -⟩
    · exact .inr (.inr (.inl ⟨⟨ctrl, rest, hin, hsel, hst, hb⟩, _, rest, u, hu, h⟩))
    · refine .inr (.inr (.inr ⟨hidle, hpending, hcrc.imp_right (⟨hedge, ·⟩), hborrow.imp_right ?_⟩))
      rintro ⟨hst, hb, hinUse, -, hend, hmiso⟩
      exact ⟨⟨hedge, hst, hb⟩, hinUse, hend, hmiso⟩
  · refine .inr (.inr (.inr ?_))
    rw [hsame]; exact ⟨rfl, rfl, .inl rfl, .inl ⟨rfl, rfl⟩⟩

/-- Settles O45: of the dispatches, CMD0 and ACMD41 write `idleFlag`. -/
theorem idleFlagWriters : Obligations.IdleFlagWriters := by
  intro s t ht hne
  rcases step_writers ht with hreset | ⟨-, bytes, rest, rfl⟩ | ⟨hdisp, b, rest, u, hu, rfl⟩ | ⟨hidle, -⟩
  · exact .inr (.inr hreset)
  · exact absurd rfl hne
  · rcases dispatch_cases hu with ⟨happ, hcmd, rfl⟩ | ⟨-, rfl⟩ | ⟨-, -, rfl⟩ | ⟨-, rfl⟩ | ⟨happ, hcmd, rfl⟩ | rfl
    · exact .inl ⟨hdisp, happ, hcmd, rfl⟩
    · exact absurd rfl hne
    · exact absurd rfl hne
    · exact absurd rfl hne
    · exact .inr (.inl ⟨hdisp, happ, hcmd, rfl⟩)
    · exact absurd rfl hne
  · exact absurd hidle hne

/-- Settles O46: of the dispatches, only CMD17 writes `pending`. -/
theorem pendingWriters : Obligations.PendingWriters := by
  intro s t ht hne
  rcases step_writers ht with hreset | ⟨hacc, bytes, rest, rfl⟩ | ⟨hdisp, b, rest, u, hu, rfl⟩ | ⟨-, hpending, -⟩
  · exact .inr (.inr hreset)
  · exact .inr (.inl ⟨hacc, rfl⟩)
  · obtain ⟨-, -, ⟨hsame, -⟩ | ⟨happ, hcmd, hset, -⟩⟩ := dispatch_read_registers hu
    · exact absurd hsame hne
    · exact .inl ⟨hdisp, happ, hcmd, hset⟩
  · exact absurd hpending hne

/-- Settles O47: no dispatch writes `inUse`. -/
theorem inUseWriters : Obligations.InUseWriters := by
  intro s t ht hne
  rcases step_writers ht with hreset | ⟨hacc, bytes, rest, rfl⟩ | ⟨-, b, rest, u, hu, rfl⟩ | ⟨-, -, -, hborrow⟩
  · exact .inr (.inr hreset)
  · exact .inl ⟨hacc, rfl⟩
  · exact absurd (dispatch_read_registers hu).1 hne
  · rcases hborrow with ⟨hsame, -⟩ | hlast
    · exact absurd hsame hne
    · exact .inr (.inl hlast)

/-- Settles O48: only a bit-time and a reset write `state` or `bitcount`. -/
theorem sequencerMovesAtSelectedEdges : Obligations.SequencerMovesAtSelectedEdges := by
  intro s t ht hmoved
  rcases step_cases ht with ⟨rest, hin, -⟩ | ⟨bytes, rest, -, -, rfl⟩ | ⟨ctrl, rest, hin, hsel, -⟩ | hsame
  · exact .inr ⟨rest, hin⟩
  · simp at hmoved
  · exact .inl ⟨ctrl, rest, hin, hsel⟩
  · rw [hsame] at hmoved; simp at hmoved

/-- Settles O49: CMD17 seeds the CRC, and the last bit-time of a data byte steps it. -/
theorem crcWriters : Obligations.CrcWriters := by
  intro s t ht hne
  rcases step_writers ht with hreset | ⟨-, bytes, rest, rfl⟩ | ⟨hdisp, b, rest, u, hu, rfl⟩ | ⟨-, -, hcrc, -⟩
  · exact .inr (.inr hreset)
  · exact absurd rfl hne
  · obtain ⟨-, -, ⟨-, hsame⟩ | ⟨happ, hcmd, -, hseed⟩⟩ := dispatch_read_registers hu
    · exact absurd hsame hne
    · exact .inl ⟨hdisp, happ, hcmd, hseed⟩
  · rcases hcrc with hsame | hbyte
    · exact absurd hsame hne
    · exact .inr (.inl hbyte)

/-- Settles O50: only lending and the end of a borrow change what an index reads as. -/
theorem bufferIsNeverWritten : Obligations.BufferIsNeverWritten := by
  rintro s t ht ⟨k, hne⟩
  rcases step_writers ht with hreset | ⟨hacc, -⟩ | ⟨-, b, rest, u, hu, rfl⟩ | ⟨-, -, -, hborrow⟩
  · exact .inr (.inr hreset)
  · exact .inl hacc
  · obtain ⟨-, hbuf, -⟩ := dispatch_read_registers hu
    exact absurd (by rw [enter_buf, hbuf]) hne
  · rcases hborrow with ⟨-, hbuf⟩ | ⟨hlast, -⟩
    · exact absurd (by rw [hbuf]) hne
    · exact .inr (.inl hlast)

end Sys2Proof.Machine
end

section
/-! At most one request, and the borrowed memory in canonical form (20_memory.md R53, 60_exceptions.md R160). -/

namespace Sys2Proof.Machine

/-- No block is requested while a buffer is lent (R34 I4). -/
theorem Inv.not_pending_and_inUse {s : State} (h : Inv s) : ¬(s.pending = true ∧ s.inUse = true) := by
  rintro ⟨hp, hu⟩
  obtain ⟨hnot, -⟩ := h.lent hu
  simp [hp] at hnot

/-- The buffer field is canonical: a whole block while a buffer is lent, and empty otherwise (R28). -/
theorem Inv.buf_wf {s : State} (h : Inv s) : s.buf.wf = true := by
  cases hu : s.inUse with
  | true => exact Memory.wf_of_isBlock s.buf (h.bufferLent hu)
  | false => rw [h.bufferFree hu]; exact Memory.wf_nil

/-- Settles O57: the assertion of Idle is `Quiet`, and a lent buffer excludes a request. -/
theorem quiescentIdle : Obligations.QuiescentIdle := by
  intro s h
  refine ⟨h.not_pending_and_inUse, fun hidle => ?_, h.buf_wf⟩
  obtain ⟨⟨hp, hu, -⟩, -⟩ := h.phase_at hidle
  exact ⟨hp, hu⟩

end Sys2Proof.Machine
end

section
/-! Encoding (30_encoding.md sections 1 and 4): the bytes and the parts of a frame, and the encoder against the
decoder. -/

namespace Sys2Proof

/-! ### The parts of a frame -/

/-- A bit is a field of width one. -/
theorem ofBool_getLsbD {n : Nat} (x : BitVec n) (k : Nat) : BitVec.ofBool (x.getLsbD k) = x.extractLsb' k 1 := by
  ext i hi; simp [show i = 0 by omega]

/-- The two framing bits are 0 and 1 (R59). -/
theorem wellFormed_iff_extractLsb' (w : Frame) : w.wellFormed = true ↔ w.extractLsb' 46 2 = 0b01#2 := by
  have hbits : BitVec.ofBool (w.getLsbD 47) ++ BitVec.ofBool (w.getLsbD 46) = w.extractLsb' 46 2 := by
    rw [ofBool_getLsbD, ofBool_getLsbD, BitVec.extractLsb'_append_extractLsb'_eq_extractLsb' (by rfl)]
  rw [← hbits, Frame.wellFormed, Frame.startBitOk, Frame.secondBitOk]
  cases w.getLsbD 47 <;> cases w.getLsbD 46 <;> decide

/-- A frame is its framing bits and its fields, put together again (R59). -/
theorem append_frameFields (w : Frame) :
    w.extractLsb' 46 2 ++ frameNumber w ++ (frameFields w).arg ++ (frameFields w).checksum
      ++ BitVec.ofBool (frameFields w).discarded = w := by
  simp only [frameNumber, frameFields, ofBool_getLsbD]
  iterate 4 rw [BitVec.extractLsb'_append_extractLsb'_eq_extractLsb' (by rfl)]
  exact BitVec.extractLsb'_eq_self

/-- Six bytes put together again are the frame (R61). -/
theorem frameOfBytes_frameByte (w : Frame) :
    frameOfBytes (frameByte w 0) (frameByte w 1) (frameByte w 2) (frameByte w 3) (frameByte w 4) (frameByte w 5) =
      w := by
  simp only [frameOfBytes, frameByte]
  iterate 5 rw [BitVec.extractLsb'_append_extractLsb'_eq_extractLsb' (by rfl)]
  exact BitVec.extractLsb'_eq_self

/-- The first byte is the framing bits and the number (R61). -/
theorem frameByte_zero (w : Frame) : frameByte w 0 = w.extractLsb' 46 2 ++ frameNumber w := by
  rw [frameNumber, BitVec.extractLsb'_append_extractLsb'_eq_extractLsb' (by rfl), frameByte]

/-- The four bytes after the first are the argument's (R61). -/
theorem frameByte_succ (w : Frame) (k : Nat) (h : k < 4) :
    frameByte w (k + 1) = (frameFields w).arg.extractLsb' (24 - 8 * k) 8 := by
  rw [frameFields, extractLsb'_extractLsb' w 8 32 (24 - 8 * k) 8 (by omega), frameByte,
    show 40 - 8 * (k + 1) = 8 + (24 - 8 * k) by omega]

/-- The last byte is the checksum and the last bit (R61). -/
theorem frameByte_five (w : Frame) :
    frameByte w 5 = (frameFields w).checksum ++ BitVec.ofBool (frameFields w).discarded := by
  simp only [frameFields, ofBool_getLsbD]
  rw [BitVec.extractLsb'_append_extractLsb'_eq_extractLsb' (by rfl), frameByte]

/-- The first byte of a frame in the way the map writes it (R61). -/
theorem append_number_eq_or (n : BitVec 6) : 0b01#2 ++ n = 0x40#8 ||| n.setWidth 8 := by
  rw [BitVec.append_def]; rfl

/-- A first byte stands for a number: it is `0x40 | n` exactly in the frames that carry `n` (R61, R64). -/
theorem frameByte_zero_eq_iff (w : Frame) (n : BitVec 6) :
    frameByte w 0 = 0x40#8 ||| n.setWidth 8 ↔ w.wellFormed = true ∧ frameNumber w = n := by
  rw [frameByte_zero, wellFormed_iff_extractLsb', ← append_number_eq_or]
  constructor
  · intro h
    have hhi := congrArg (BitVec.extractLsb' 6 2) h
    have hlo := congrArg (BitVec.extractLsb' 0 6) h
    simp only [BitVec.extractLsb'_append_eq_left, BitVec.extractLsb'_append_eq_right] at hhi hlo
    exact ⟨hhi, hlo⟩
  · rintro ⟨h, rfl⟩; rw [h]

/-- The mask of R73 keeps the first byte of a frame and clears the rest. -/
theorem and_mask_eq_append (w : Frame) : w &&& 0xFF0000000000#48 = frameByte w 0 ++ 0#40 := by
  have hsplit : w.extractLsb' 40 8 ++ w.extractLsb' 0 40 = w := BitVec.extractLsb'_append_extractLsb' (w := 8)
  have hmask : 0xFF0000000000#48 = BitVec.allOnes 8 ++ 0#40 := by decide
  conv_lhs => rw [← hsplit, hmask, BitVec.and_append, BitVec.and_allOnes, BitVec.and_zero]
  rfl

/-- The mask test of R73 reads the first byte alone. -/
theorem and_mask_eq_shiftLeft_iff (w : Frame) (b : Byte) :
    w &&& 0xFF0000000000#48 = b.setWidth 48 <<< 40 ↔ frameByte w 0 = b := by
  have hshift : b.setWidth 48 <<< 40 = b ++ 0#40 := by
    rw [BitVec.append_def, BitVec.shiftLeftZeroExtend_eq]; simp
  rw [and_mask_eq_append, hshift, BitVec.append_left_inj]

/-! ### The encoder -/

@[simp] theorem frameNumber_encode (i : Instr) : frameNumber (encode i) = i.number := frameNumber_append _ _ _ _

@[simp] theorem frameFields_encode (i : Instr) : frameFields (encode i) = i.fields := frameFields_append _ _ _ _

@[simp] theorem wellFormed_encode (i : Instr) : (encode i).wellFormed = true := wellFormed_append _ _ _ _

/-- A frame as a number: the weight of each field is 2 to the number of bits below it. -/
theorem toNat_append_eq_add {n m : Nat} (x : BitVec n) (y : BitVec m) :
    (x ++ y).toNat = x.toNat * 2 ^ m + y.toNat := by
  rw [BitVec.toNat_append, ← Nat.shiftLeft_add_eq_or_of_lt y.isLt, Nat.shiftLeft_eq]

theorem toNat_encode (i : Instr) :
    (encode i).toNat = (0x40 + i.number.toNat) * 2 ^ 40 + i.fields.arg.toNat * 2 ^ 8 + i.fields.checksum.toNat * 2
      + i.fields.discarded.toNat := by
  simp only [encode, toNat_append_eq_add, BitVec.toNat_ofBool, BitVec.toNat_ofNat]
  omega

/-- Every command is what its mode's table holds at its number (R64, R94). -/
theorem selectCommand_self (i : Instr) : selectCommand i.mode i.number i.fields = i := by
  cases i <;> rfl

/-- The decoder undoes the encoder (R59, R63). -/
theorem decodeFrame_encode (i : Instr) : decodeFrame i.mode (encode i) = .ok i := by
  rw [decodeFrame_of_wellFormed _ _ (wellFormed_encode i), frameNumber_encode, frameFields_encode, selectCommand_self]

/-- Decoding the bytes of a frame is decoding the frame; what follows is left alone (R61). -/
theorem decode_bytesOfFrame {m : CmdMode} {w : Frame} {i : Instr} (h : decodeFrame m w = .ok i) (rest : List Byte) :
    decode m (bytesOfFrame w ++ rest) = .ok (i, rest) := by
  simp [bytesOfFrame, decode, frameOfBytes_frameByte, h]

/-- The encoder undoes the decoder (R59, R60). -/
theorem encode_selectCommand (m : CmdMode) (w : Frame) (h : w.wellFormed = true) :
    encode (selectCommand m (frameNumber w) (frameFields w)) = w := by
  obtain ⟨-, hnumber, hfields⟩ := selectCommand_spec m (frameNumber w) (frameFields w)
  rw [encode, hnumber, hfields, ← (wellFormed_iff_extractLsb' w).1 h, append_frameFields]

/-- Settles O1: a command is what its mode's table holds at its number, and the encoder puts number and fields where the
decoder looks for them. -/
theorem encodedCommandDecodesBack : Obligations.EncodedCommandDecodesBack := by
  intro m i hm
  obtain rfl : i.mode = m := by simpa [Instr.wellFormedIn] using hm
  exact ⟨wellFormed_encode i, decodeFrame_encode i, decode_bytesOfFrame (decodeFrame_encode i)⟩

/-- Settles O2: a frame that decodes has the two framing bits the encoder writes. -/
theorem decodedFrameEncodesBack : Obligations.DecodedFrameEncodesBack := by
  intro m w i hi
  obtain ⟨hw, rfl⟩ := (decodeFrame_eq_ok_iff m w i).1 hi
  obtain ⟨hmode, hnumber, hfields⟩ := selectCommand_spec m (frameNumber w) (frameFields w)
  exact ⟨encode_selectCommand m w hw, by simp [Instr.wellFormedIn, hmode], hnumber, hfields⟩

/-- A frame decodes to a command of number `n` exactly when it is a frame and carries `n` (R63). -/
theorem decodeFrame_eq_selectCommand_iff (m : CmdMode) (w : Frame) (n : BitVec 6) :
    (∃ f, decodeFrame m w = .ok (selectCommand m n f)) ↔ w.wellFormed = true ∧ frameNumber w = n := by
  constructor
  · rintro ⟨f, hf⟩
    obtain ⟨hw, heq⟩ := (decodeFrame_eq_ok_iff m w _).1 hf
    obtain ⟨-, hnumber, -⟩ := selectCommand_spec m n f
    obtain ⟨-, hnumber', -⟩ := selectCommand_spec m (frameNumber w) (frameFields w)
    exact ⟨hw, by rw [← hnumber, heq, hnumber']⟩
  · rintro ⟨hw, rfl⟩; exact ⟨_, decodeFrame_of_wellFormed m w hw⟩

theorem bytesOfFrame_eq (w : Frame) :
    bytesOfFrame w =
      [frameByte w 0, (frameFields w).arg.extractLsb' 24 8, (frameFields w).arg.extractLsb' 16 8,
       (frameFields w).arg.extractLsb' 8 8, (frameFields w).arg.extractLsb' 0 8,
       (frameFields w).checksum ++ BitVec.ofBool (frameFields w).discarded] := by
  simp [bytesOfFrame, frameByte_succ, ← frameByte_five]

/-- Settles O4: the bytes and the number are those of the frame's fields, and the mask test reads the first byte. -/
theorem frameByteView : Obligations.FrameByteView := by
  refine ⟨fun i => ⟨?_, toNat_encode i⟩, fun m w n => ?_⟩
  · have hfirst := (frameByte_zero_eq_iff (encode i) i.number).2 ⟨wellFormed_encode i, frameNumber_encode i⟩
    rw [bytesOfFrame_eq, hfirst, frameFields_encode]
  · have hwide : 0x40#48 ||| n.setWidth 48 = (0x40#8 ||| n.setWidth 8).setWidth 48 := by simp
    rw [decodeFrame_eq_selectCommand_iff, ← frameByte_zero_eq_iff, ← and_mask_eq_shiftLeft_iff, hwide]

/-- Settles O3: the decoder tests the start bit, then the second bit, and nothing else. -/
theorem framingBitsDecideRejection : Obligations.FramingBitsDecideRejection := by
  intro m w
  unfold decodeFrame Frame.startBitOk Frame.secondBitOk
  cases w.getLsbD 47 <;> cases w.getLsbD 46 <;> simp

/-- Settles O5, by running the decoder on the five frames. -/
theorem writtenFramesDecode : Obligations.WrittenFramesDecode := by
  unfold Obligations.WrittenFramesDecode
  decide

end Sys2Proof
end

section
/-! The command map of 30_encoding.md R64: which pairs of mode and number are accepted, and the tail of each. -/

namespace Sys2Proof.Machine

/-- A dispatch rejects exactly what the map does not accept, and leaves the number in its register (R64, R94, R149). -/
theorem exec_invalidCommand (i : Instr) (s : State) :
    ∃ t, exec i s = .next t ∧ t.cmd = s.cmd ∧ t.invalidCommand = !tableAccepts i.mode i.number i.fields.arg := by
  rcases exec_cases i s with ⟨hm, hn, h⟩ | ⟨hm, hn, h⟩ | ⟨hm, hn, h⟩ | ⟨hm, hn, h⟩ | ⟨hm, hn, h⟩ | ⟨hrej, h⟩
  case inr.inr.inr.inr.inr => exact ⟨_, h, rfl, by simp [hrej]⟩
  case inr.inl => exact ⟨_, h, rfl, by rcases hn with hn | hn | ⟨hn, harg⟩ <;> simp [tableAccepts, *]⟩
  all_goals exact ⟨_, h, rfl, by simp [tableAccepts, hm, hn]⟩

/-- The tail of an accepted command is the map's (R64, R108). -/
theorem tail_of_accepted {m : CmdMode} {arg : BitVec 32} {t : State} (hacc : tableAccepts m t.cmd arg = true)
    (ht : t.invalidCommand = false) : tail t = tableTail m t.cmd := by
  cases m with
  | cmd => simp [tail, tableTail, ht]
  | acmd =>
    have hcmd : t.cmd = 41#6 := by simpa [tableAccepts] using hacc
    simp [tail, tableTail, ht, hcmd]

/-- A rejected command has no tail (R108, decision D11). -/
theorem tail_of_rejected {t : State} (ht : t.invalidCommand = true) : tail t = .idle := by simp [tail, ht]

/-- The frames that begin with `0x40 | n` are those of number `n` (R61, R64). -/
theorem decodesFrom_selectCommand (m : CmdMode) (n : BitVec 6) :
    decodesFrom m (0x40#8 ||| n.setWidth 8) (selectCommand m n) := by
  intro w hw
  obtain ⟨hframe, rfl⟩ := (frameByte_zero_eq_iff w n).1 hw
  exact decodeFrame_of_wellFormed m w hframe

/-- Settles O15: a dispatch's rejection is the map's, and the number it leaves in `cmd` chooses the tail. -/
theorem acceptedCommandMap : Obligations.AcceptedCommandMap := by
  refine ⟨fun m n f s => ⟨decodesFrom_selectCommand m n, ?_⟩, by decide, by decide⟩
  obtain ⟨t, ht, hcmd, hinvalid⟩ := exec_invalidCommand (selectCommand m n f) s
  obtain ⟨hm, hn, hf⟩ := selectCommand_spec m n f
  rw [hm, hn, hf] at hinvalid
  refine ⟨t, ht, hinvalid, ?_⟩
  rintro rfl
  cases hacc : tableAccepts m s.cmd f.arg <;> rw [hacc] at hinvalid
  · exact tail_of_rejected hinvalid
  · rw [← hcmd] at hacc ⊢
    exact tail_of_accepted hacc hinvalid

end Sys2Proof.Machine
end

section
/-! Fields on the wire (20_memory.md R42, 42_response_formatter.md, 43_block_transfer.md section 2): every sending state
puts the bits of one field on `miso`, one per bit-time, whatever the host sends meanwhile. -/

namespace Sys2Proof.Machine

/-! ### Runs -/

theorem trace_of_step {k : Nat} {s t u : State} {bits : List Bool} (hs : step s = .next t)
    (ht : trace k t = some (bits, u)) : trace (k + 1) s = some (t.miso :: bits, u) := by
  simp [trace, hs, ht]

theorem trace_append {m n : Nat} {s t u : State} {bs ds : List Bool} (hm : trace m s = some (bs, t))
    (hn : trace n t = some (ds, u)) : trace (m + n) s = some (bs ++ ds, u) := by
  simp [trace_add, hm, hn]

/-- A list of edges is its first `k` and the others. -/
theorem edges_take_drop (k : Nat) (cs : List Ctrl) (rest : List Event) :
    edges cs ++ rest = edges (cs.take k) ++ (edges (cs.drop k) ++ rest) := by
  simp only [edges, ← List.append_assoc, ← List.map_append, List.take_append_drop]

theorem allSelected.take {cs : List Ctrl} (h : allSelected cs) (k : Nat) : allSelected (cs.take k) :=
  fun c hc => h c (List.mem_of_mem_take hc)

theorem allSelected.drop {cs : List Ctrl} (h : allSelected cs) (k : Nat) : allSelected (cs.drop k) :=
  fun c hc => h c (List.mem_of_mem_drop hc)

/-! ### One field -/

/-- `s` after `k` bit-times of a field, with `m` on `miso` and `es` to come: nothing else changes within a field. -/
def within (k : BitVec 6) (m : Bool) (es : List Event) (s : State) : State :=
  { s with bitcount := k, miso := m, inputs := es }

/-- The state of `s` sends the field `v`: bit-time `k` drives bit `k` of it, and the last one also does `finish`. -/
def SendsField {n : Nat} (v : BitVec n) (finish : State → State) (s : State) : Prop :=
  ∀ (k : BitVec 6) (m b : Bool) (es : List Event), k.toNat < n →
    bitTime b (within k m es s) = .next
      (if k + 1#6 = BitVec.ofNat 6 n then finish (within (k + 1#6) (v.getMsbD k.toNat) es s)
      else within (k + 1#6) (v.getMsbD k.toNat) es s)

/-- The rest of a field, from bit `k` on. -/
theorem SendsField.trace_from {n : Nat} {v : BitVec n} {finish : State → State} {s : State}
    (h : SendsField v finish s) (hfinish : ∀ t, (finish t).miso = t.miso) (hn : n < 64) (cs : List Ctrl)
    (rest : List Event) (k : BitVec 6) (m : Bool) (hsel : allSelected cs) (hne : cs ≠ [])
    (hk : k.toNat + cs.length = n) :
    trace cs.length (within k m (edges cs ++ rest) s) = some
      ((List.range' k.toNat cs.length).map v.getMsbD, finish (within (BitVec.ofNat 6 n) (v.getLsbD 0) rest s)) := by
  induction cs generalizing k m with
  | nil => exact absurd rfl hne
  | cons c cs ih =>
    rw [List.length_cons] at hk ⊢
    have hstep := (step_selected (within k m (edges (c :: cs) ++ rest) s) c _ rfl (hsel c (by simp))).trans
      (h k m (mosi c) (edges cs ++ rest) (by omega))
    have hlast : k + 1#6 = BitVec.ofNat 6 n ↔ cs = [] := by
      rw [← List.length_eq_zero_iff, ← BitVec.toNat_inj, BitVec.toNat_add, BitVec.toNat_ofNat, BitVec.toNat_ofNat]
      omega
    rw [List.range'_succ, List.map_cons]
    by_cases hend : cs = []
    · subst hend
      have hbit : v.getMsbD k.toNat = v.getLsbD 0 := by simp [BitVec.getMsbD, ← hk]
      rw [if_pos (hlast.2 rfl)] at hstep
      rw [← hlast.2 rfl, ← hbit]
      exact (trace_of_step hstep rfl).trans (by rw [hfinish]; rfl)
    · have hk1 : (k + 1#6).toNat = k.toNat + 1 := by
        have := List.length_pos_iff.2 hend
        rw [BitVec.toNat_add, BitVec.toNat_ofNat]; omega
      rw [if_neg (mt hlast.1 hend)] at hstep
      have htail := ih (k + 1#6) (v.getMsbD k.toNat) (fun c hc => hsel c (List.mem_cons_of_mem _ hc)) hend (by omega)
      rw [hk1] at htail
      exact trace_of_step hstep htail

/-- A whole field on the wire, from its first bit-time. -/
theorem SendsField.trace_eq {n : Nat} {v : BitVec n} {finish : State → State} {s : State}
    (h : SendsField v finish s) (hfinish : ∀ t, (finish t).miso = t.miso) (hpos : 0 < n) (hn : n < 64)
    {cs : List Ctrl} {rest : List Event} (hsel : allSelected cs) (hlen : cs.length = n) (hcount : s.bitcount = 0#6)
    (hin : s.inputs = edges cs ++ rest) :
    trace n s = some (wireBits v, finish (within (BitVec.ofNat 6 n) (v.getLsbD 0) rest s)) := by
  have hs : within 0#6 s.miso (edges cs ++ rest) s = s := by rw [within, ← hcount, ← hin]
  have hne : cs ≠ [] := List.length_pos_iff.1 (by omega)
  have hrun := h.trace_from hfinish hn cs rest 0#6 s.miso hsel hne (by simpa using hlen)
  rwa [hs, hlen, BitVec.toNat_zero, ← List.range_eq_range'] at hrun

/-! ### The bits of a field -/

/-- The bits of two fields joined are the bits of the first, then those of the second (R42). -/
theorem wireBits_append {n m : Nat} (x : BitVec n) (y : BitVec m) : wireBits (x ++ y) = wireBits x ++ wireBits y := by
  simp only [wireBits, List.range_add, List.map_append, List.map_map]
  congr 1 <;> refine List.map_congr_left fun k hk => ?_
  · have : ¬n ≤ k := by simpa using hk
    simp [BitVec.getMsbD_append, this]
  · simp [BitVec.getMsbD_append]

/-- The CMD8 tail is 24 zeros and the low byte of the argument (R67). -/
theorem echoWord_eq_append (arg : BitVec 32) : echoWord arg = 0#24 ++ arg.extractLsb' 0 8 := by
  rw [echoWord, ← BitVec.setWidth_eq_extractLsb' (by decide), BitVec.setWidth_eq_append (by decide), BitVec.cast_eq]

/-! ### The sending states -/

theorem sendsField_sendIfCond {s : State} (hst : s.state = .sendIfCond) :
    SendsField (echoWord s.arg) (enter .idle) s := by
  intro k m b es hk
  simp [bitTime, within, hst, sendIfCondStep, wireBit_of_lt _ _ hk, countBit, drive]

theorem sendsField_sendOcr {s : State} (hst : s.state = .sendOcr) : SendsField 0#32 (enter .idle) s := by
  intro k m b es _
  simp [bitTime, within, hst, sendOcrStep, countBit, drive]

theorem sendsField_sendStart {s : State} (hst : s.state = .sendStart) :
    SendsField Config.startToken (enter .sendData) s := by
  intro k m b es hk
  have htoken : ∀ k : BitVec 6, k.toNat < 8 → (k != 7#6) = Config.startToken.getMsbD k.toNat := by decide
  simp [bitTime, within, hst, sendStartStep, countBit, drive, htoken k hk]

/-- The end of a data byte, and of the block where no byte is left (R117). -/
def finishByte (byte : Byte) (s : State) : State :=
  { advanceCursor byte s with state := if s.remaining = 1#10 then .sendCrc else s.state }

theorem sendsField_sendData {s : State} {byte : Byte} (hst : s.state = .sendData)
    (hread : s.buf.read s.bufPos.toNat = some byte) : SendsField byte (finishByte byte) s := by
  intro k m b es hk
  have hlast : s.remaining - 1#10 = 0#10 ↔ s.remaining = 1#10 := sub_eq_zero
  simp only [bitTime, within, hst, sendDataStep, hread, wireBit_of_lt _ _ hk, countBit, drive, finishByte,
    advanceCursor, hlast]
  by_cases h8 : k + 1#6 = 8#6
  · by_cases hr : s.remaining = 1#10 <;> simp [h8, hr]
  · simp [h8]

theorem sendsField_sendCrc {s : State} (hst : s.state = .sendCrc) :
    SendsField s.crc (fun t => enter .idle (releaseBuffer t)) s := by
  intro k m b es hk
  simp [bitTime, within, hst, sendCrcStep, wireBit_of_lt _ _ hk, countBit, drive]

end Sys2Proof.Machine
end

section
/-! What follows a response byte on the wire: the tails of CMD8 and CMD58 (30_encoding.md R67, R68), and a block between
its token and its CRC (R69). -/

namespace Sys2Proof.Machine

/-- Settles O32: the tail is the field `echoWord`, 24 zeros before the low byte of the argument. -/
theorem echoTailOnWire : Obligations.EchoTailOnWire := by
  intro cs rest s hsel hlen hst hcount hin
  have hbits : wireBits (echoWord s.arg) = List.replicate 24 false ++ wireBits (s.arg.extractLsb' 0 8) := by
    rw [echoWord_eq_append, wireBits_append]; rfl
  have hlast : (echoWord s.arg).getLsbD 0 = s.arg.getLsbD 0 := by simp [echoWord]
  have hrun := (sendsField_sendIfCond hst).trace_eq (fun _ => rfl) (by decide) (by decide) hsel hlen hcount hin
  rw [hlast] at hrun
  rw [← hbits]
  exact hrun

/-- Settles O33: the tail is a field of zeros. -/
theorem ocrTailOnWire : Obligations.OcrTailOnWire := fun _ _ _ hsel hlen hst hcount hin =>
  (sendsField_sendOcr hst).trace_eq (fun _ => rfl) (by decide) (by decide) hsel hlen hcount hin

/-- The bytes from the cursor on: each is sent, folded into the CRC and counted off, and after the last one the CRC is
next (R117, R123). -/
theorem trace_sendData (sent bytes : List Byte) (cs : List Ctrl) (rest : List Event) (s : State) (hne : bytes ≠ [])
    (hsize : sent.length + bytes.length = 512) (hpos : s.bufPos.toNat = sent.length)
    (hremaining : s.remaining.toNat = bytes.length) (hbuf : s.buf = Memory.ofBytes (sent ++ bytes))
    (hst : s.state = .sendData) (hcount : s.bitcount = 0#6) (hsel : allSelected cs)
    (hlen : cs.length = 8 * bytes.length) (hin : s.inputs = edges cs ++ rest) :
    ∃ m, trace (8 * bytes.length) s = some (bytes.flatMap (fun b => wireBits b),
      { s with
        inputs := rest, miso := m, bitcount := 0#6, state := .sendCrc, crc := crc16 bytes s.crc,
        bufPos := 512#10, remaining := 0#10 }) := by
  induction bytes generalizing sent s cs with
  | nil => exact absurd rfl hne
  | cons byte bytes ih =>
    rw [List.length_cons] at hsize hremaining hlen
    have hread : s.buf.read s.bufPos.toNat = some byte := by simp [hbuf, Memory.read_ofBytes, hpos]
    have hpos' : (s.bufPos + 1#10).toNat = sent.length + 1 := by bv_omega
    have hremaining' : (s.remaining - 1#10).toNat = bytes.length := by bv_omega
    have hlast : s.remaining = 1#10 ↔ bytes = [] := by rw [← List.length_eq_zero_iff]; bv_omega
    have hbyte := (sendsField_sendData hst hread).trace_eq (fun _ => rfl) (by decide) (by decide) (hsel.take 8)
      (by rw [List.length_take]; omega) hcount (hin.trans (edges_take_drop 8 cs rest))
    rw [List.length_cons, Nat.mul_succ, Nat.add_comm, List.flatMap_cons]
    by_cases hend : bytes = []
    · subst hend
      have hcs : cs.drop 8 = [] := List.drop_eq_nil_of_le hlen.le
      have hfull : s.bufPos + 1#10 = 512#10 := BitVec.eq_of_toNat_eq (hpos'.trans hsize)
      refine ⟨byte.getLsbD 0, hbyte.trans ?_⟩
      simp [wireBits, finishByte, advanceCursor, within, hlast.2 rfl, hfull, hcs, edges, crc16]
    · obtain ⟨m, hrest⟩ := ih (sent ++ [byte]) (cs.drop 8)
        (finishByte byte (within 8#6 (byte.getLsbD 0) (edges (cs.drop 8) ++ rest) s)) hend (by simp; omega)
        (hpos'.trans (by simp)) hremaining' (hbuf.trans (by simp))
        ((if_neg (mt hlast.1 hend)).trans hst) rfl (hsel.drop 8) (by rw [List.length_drop]; omega) rfl
      exact ⟨m, trace_append hbyte hrest⟩

/-- Settles O37: three fields in turn, the token, the 512 bytes and their CRC. -/
theorem blockOnWire : Obligations.BlockOnWire := by
  intro bytes cs rest s hlen hsel hcs hst hcount hbuf hpos hremaining hcrc hin
  have htoken := (sendsField_sendStart hst).trace_eq (fun _ => rfl) (by decide) (by decide) (hsel.take 8)
    (by rw [List.length_take]; omega) hcount (hin.trans (edges_take_drop 8 cs rest))
  obtain ⟨m, hdata⟩ := trace_sendData [] bytes ((cs.drop 8).take 4096) (edges ((cs.drop 8).drop 4096) ++ rest)
    (enter .sendData (within 8#6 ((Config.startToken.getLsbD 0)) (edges (cs.drop 8) ++ rest) s))
    (by rintro rfl; simp at hlen) (by simpa using hlen) (by simp [within, hpos]) (by simp [within, hremaining, hlen])
    hbuf rfl rfl ((hsel.drop 8).take 4096) (by simp; omega) (edges_take_drop 4096 (cs.drop 8) rest)
  rw [hlen] at hdata
  have hrun := trace_append (trace_append htoken hdata) ((sendsField_sendCrc rfl).trace_eq (fun _ => rfl) (by decide)
    (by decide) ((hsel.drop 8).drop 4096) (by simp; omega) rfl rfl)
  simpa [within, enter, releaseBuffer, hcrc] using hrun

end Sys2Proof.Machine
end

section
/-! Which edges a card takes part in (40_command_framer.md R90, R91): the selection test, and runs in which the
deselected edges are left out. -/

namespace Sys2Proof.Machine

/-- R30, R81: the select test reads the card's own select bit. -/
theorem cardSelected_eq_not_getLsbD (ctrl : Ctrl) :
    cardSelected ctrl = !ctrl.getLsbD (selectBit Config.ssLine) :=
  cardSelected_eq ctrl

/-- Settles O24: its own select bit at 1 deselects the card, and a deselected edge is consumed. -/
theorem deselectedEdgeChangesNothing : Obligations.DeselectedEdgeChangesNothing := fun s ctrl rest hin hbit =>
  step_deselected s ctrl rest hin (by rw [cardSelected_eq_not_getLsbD, hbit]; rfl)

/-- Settles O25: the select test reads one bit and `mosi` the other. -/
theorem edgeReadsTwoBits : Obligations.EdgeReadsTwoBits := by
  refine ⟨cardSelected_eq_not_getLsbD, fun c d s hbit hselect => ?_⟩
  have hmosi : mosi c = mosi d := hbit
  rw [edge, edge, cardSelected_eq_not_getLsbD, cardSelected_eq_not_getLsbD, hselect, hmosi]

/-! ### An operation does not look at the operations after it -/

/-- `s` with other operations to come. -/
def withInputs (es : List Event) (s : State) : State := { s with inputs := es }

@[simp] theorem withInputs_state (es : List Event) (s : State) : (withInputs es s).state = s.state := rfl
@[simp] theorem withInputs_bitcount (es : List Event) (s : State) : (withInputs es s).bitcount = s.bitcount := rfl
@[simp] theorem withInputs_arg (es : List Event) (s : State) : (withInputs es s).arg = s.arg := rfl
@[simp] theorem withInputs_bufPos (es : List Event) (s : State) : (withInputs es s).bufPos = s.bufPos := rfl
@[simp] theorem withInputs_crc (es : List Event) (s : State) : (withInputs es s).crc = s.crc := rfl
@[simp] theorem withInputs_buf (es : List Event) (s : State) : (withInputs es s).buf = s.buf := rfl

/-- A dispatch neither reads nor writes the operations to come (R93). -/
theorem exec_withInputs (i : Instr) (es : List Event) (s : State) :
    exec i (withInputs es s) = andThen (exec i s) (withInputs es) := by
  cases i with
  | cmd16 f =>
    simp only [exec, execCmd16]
    split <;> rfl
  | _ => rfl

theorem recvChecksumStep_withInputs (b : Bool) (es : List Event) (s : State) :
    recvChecksumStep b (withInputs es s) = andThen (recvChecksumStep b s) (withInputs es) := by
  by_cases h7 : s.bitcount = 7#6
  · rw [recvChecksumStep_dispatch b s h7, recvChecksumStep_dispatch b (withInputs es s) h7,
      show dispatchedCommand b (withInputs es s) = dispatchedCommand b s from rfl, exec_withInputs]
    cases exec (dispatchedCommand b s) s <;> rfl
  · have h8 : ¬s.bitcount + 1#6 = 8#6 := by bv_omega
    by_cases hlt : s.bitcount < 7#6 <;>
      (simp only [recvChecksumStep, countBit_bitcount, withInputs_bitcount, h8, hlt]; rfl)

theorem waitReadStep_withInputs (es : List Event) (s : State) :
    waitReadStep (withInputs es s) = withInputs es (waitReadStep s) := by
  by_cases hlt : s.bitcount < 8#6 <;>
    (simp only [waitReadStep, drive_bitcount, withInputs_bitcount, hlt, apply_ite (withInputs es)]; rfl)

theorem sendIfCondStep_withInputs (es : List Event) (s : State) :
    sendIfCondStep (withInputs es s) = andThen (sendIfCondStep s) (withInputs es) := by
  cases hbit : wireBit (echoWord s.arg) s.bitcount with
  | none => simp only [sendIfCondStep, withInputs_arg, withInputs_bitcount, hbit, andThen]
  | some b =>
    simp only [sendIfCondStep, withInputs_arg, withInputs_bitcount, hbit, andThen, apply_ite (withInputs es)]
    rfl

theorem sendCrcStep_withInputs (es : List Event) (s : State) :
    sendCrcStep (withInputs es s) = andThen (sendCrcStep s) (withInputs es) := by
  cases hbit : wireBit s.crc s.bitcount with
  | none => simp only [sendCrcStep, withInputs_crc, withInputs_bitcount, hbit, andThen]
  | some b =>
    simp only [sendCrcStep, withInputs_crc, withInputs_bitcount, hbit, andThen, apply_ite (withInputs es)]
    rfl

theorem sendDataStep_withInputs (es : List Event) (s : State) :
    sendDataStep (withInputs es s) = andThen (sendDataStep s) (withInputs es) := by
  cases hread : s.buf.read s.bufPos.toNat with
  | none => simp only [sendDataStep, withInputs_buf, withInputs_bufPos, hread, andThen]
  | some byte =>
    cases hbit : wireBit byte s.bitcount with
    | none => simp only [sendDataStep, withInputs_buf, withInputs_bufPos, withInputs_bitcount, hread, hbit, andThen]
    | some b =>
      by_cases h8 : s.bitcount + 1#6 = 8#6 <;>
        (simp only [sendDataStep, withInputs_buf, withInputs_bufPos, withInputs_bitcount, countBit_bitcount,
          drive_bitcount, hread, hbit, h8, andThen, if_true, if_false, apply_ite (withInputs es)]; rfl)

/-- Nor does a bit-time (R81). -/
theorem bitTime_withInputs (b : Bool) (es : List Event) (s : State) :
    bitTime b (withInputs es s) = andThen (bitTime b s) (withInputs es) := by
  cases hst : s.state <;> simp only [bitTime, withInputs_state, hst, andThen_next]
  case recvChecksum => exact recvChecksumStep_withInputs b es s
  case waitRead => rw [waitReadStep_withInputs]
  case sendIfCond => exact sendIfCondStep_withInputs es s
  case sendData => exact sendDataStep_withInputs es s
  case sendCrc => exact sendCrcStep_withInputs es s
  all_goals
    simp only [idleStep, recvBit1Step, recvCmdNrStep, recvArgStep, sendResponseStep, sendOcrStep, sendStartStep,
      apply_ite (withInputs es)]
    rfl

/-- An operation has the same effect whatever operations come after it. -/
theorem perform_withInputs (e : Event) (es : List Event) (s : State) :
    perform e (withInputs es s) = andThen (perform e s) (withInputs es) := by
  cases e with
  | edge ctrl =>
    cases hsel : cardSelected ctrl with
    | true => simp only [perform, edge_of_selected _ _ hsel, bitTime_withInputs]
    | false => simp only [perform, edge_of_deselected _ _ hsel, andThen_next]
  | provide bytes =>
    simp only [perform, provide, andThen_next, apply_ite (withInputs es)]
    rfl
  | otherWrite ctrl b =>
    simp only [perform, otherWrite]
    split <;> rfl
  | poll | inUse | probe | reset => rfl

/-! ### Runs -/

/-- Runs that begin with the same operation end alike where what follows it does. -/
theorem run_cons_congr (e : Event) {es fs : List Event} {m n : Nat} {s : State}
    (h : ∀ t, Host.Core.run core m (withInputs es t) = Host.Core.run core n (withInputs fs t)) :
    Host.Core.run core (m + 1) (withInputs (e :: es) s) = Host.Core.run core (n + 1) (withInputs (e :: fs) s) := by
  have hstep : ∀ gs, core.step (withInputs (e :: gs) s) = andThen (perform e s) (withInputs gs) := fun gs =>
    perform_withInputs e gs s
  simp only [Host.Core.run, hstep]
  cases perform e s with
  | next t => exact h t
  | fault r => rfl
  | refused r => rfl

/-- A deselected edge at the head of a run may be left out (R90). -/
theorem run_deselectedEdge {e : Event} (he : isDeselectedEdge e = true) (es : List Event) (n : Nat) (s : State) :
    Host.Core.run core (n + 1) (withInputs (e :: es) s) = Host.Core.run core n (withInputs es s) := by
  cases e with
  | edge ctrl =>
    have hstep : core.step (withInputs (.edge ctrl :: es) s) = .next (withInputs es s) :=
      step_deselected (withInputs (.edge ctrl :: es) s) ctrl es rfl (by simpa [isDeselectedEdge] using he)
    simp only [Host.Core.run, hstep]
  | _ => cases he

/-- Settles O26: a deselected edge is consumed, and any other operation is common to both runs. -/
theorem deselectedEdgesVanish : Obligations.DeselectedEdgesVanish := by
  intro evs rest s
  change Host.Core.run core _ (withInputs _ s) = Host.Core.run core _ (withInputs _ s)
  induction evs generalizing s with
  | nil => rfl
  | cons e evs ih =>
    cases he : isDeselectedEdge e with
    | false =>
      rw [List.filter_cons_of_pos (by simp [he])]
      exact run_cons_congr e ih
    | true =>
      rw [List.filter_cons_of_neg (by simp [he])]
      exact (run_deselectedEdge he _ _ s).trans (ih s)

end Sys2Proof.Machine
end

section
/-! The receiving states (40_command_framer.md section 2): the fields of a frame shift in one bit per bit-time, and the
last bit dispatches the command. -/

namespace Sys2Proof.Machine

/-! ### One bit-time -/

section
variable {s : State} {ctrl : Ctrl} {rest : List Event} (hin : s.inputs = .edge ctrl :: rest)
  (hsel : cardSelected ctrl = true)
include hin hsel

theorem step_idle (hst : s.state = .idle) : step s = .next (idleStep (mosi ctrl) { s with inputs := rest }) := by
  rw [step_selected s ctrl rest hin hsel]
  simp only [bitTime, hst]

theorem step_recvBit1 (hst : s.state = .recvBit1) :
    step s = .next (recvBit1Step (mosi ctrl) { s with inputs := rest }) := by
  rw [step_selected s ctrl rest hin hsel]
  simp only [bitTime, hst]

/-- The last bit of a frame: the command looked up runs, and the response begins (R86, R93). -/
theorem step_dispatch (hst : s.state = .recvChecksum) (hcount : s.bitcount = 7#6) :
    step s = andThen (exec (dispatchedCommand (mosi ctrl) s) { s with inputs := rest }) (enter .sendResponse) := by
  rw [step_selected s ctrl rest hin hsel]
  simp only [bitTime, hst]
  exact recvChecksumStep_dispatch _ _ hcount

end

/-! ### One bit of a field -/

/-- The state receives a field of `n` bits: `reg v` is the state with `v` in the field's register, bit-time `k` shifts a
bit into it and leaves `miso` alone, and the last one also does `finish`. -/
def ReceivesField {n : Nat} (reg : BitVec n → State) (finish : State → State) : Prop :=
  ∀ (v : BitVec n) (k : BitVec 6) (m b : Bool) (es : List Event), k.toNat < n →
    bitTime b (within k m es (reg v)) = .next
      (if k + 1#6 = BitVec.ofNat 6 n then finish (within (k + 1#6) m es (reg (shiftIn v b)))
      else within (k + 1#6) m es (reg (shiftIn v b)))

theorem receivesField_cmd {s : State} (hst : s.state = .recvCmdNr) :
    ReceivesField (fun v => { s with cmd := v }) (fun t => enter .recvArg { t with arg := 0#32 }) := by
  intro v k m b es _
  simp only [bitTime, within, hst]
  rfl

theorem receivesField_arg {s : State} (hst : s.state = .recvArg) :
    ReceivesField (fun v => { s with arg := v }) (fun t => enter .recvChecksum { t with checksum := 0#7 }) := by
  intro v k m b es _
  simp only [bitTime, within, hst]
  rfl

theorem receivesField_checksum {s : State} (hst : s.state = .recvChecksum) :
    ReceivesField (fun v => { s with checksum := v }) id := by
  intro v k m b es hk
  have h8 : ¬k + 1#6 = 8#6 := by bv_omega
  have h7 : k < 7#6 := hk
  simp only [bitTime, within, hst, recvChecksumStep, countBit_bitcount, h8, h7, if_true, if_false, id, ite_self]
  rfl

/-- Whether bit-time `k` is the last of a field. -/
theorem add_one_eq_ofNat_iff {n : Nat} {k : BitVec 6} (hk : k.toNat < n) (hn : n < 64) :
    k + 1#6 = BitVec.ofNat 6 n ↔ k.toNat + 1 = n := by
  rw [← BitVec.toNat_inj, BitVec.toNat_add, BitVec.toNat_ofNat, BitVec.toNat_ofNat]
  omega

section
variable {n : Nat} {reg : BitVec n → State} {finish : State → State} (h : ReceivesField reg finish) (hn : n < 64)
include h hn

theorem ReceivesField.bitTime_within (v : BitVec n) {k : BitVec 6} (hk : k.toNat + 1 < n) (m b : Bool)
    (es : List Event) :
    bitTime b (within k m es (reg v)) = .next (within (k + 1#6) m es (reg (shiftIn v b))) := by
  rw [h v k m b es (by omega), if_neg (mt (add_one_eq_ofNat_iff (by omega) hn).1 (by omega))]

theorem ReceivesField.bitTime_last (v : BitVec n) {k : BitVec 6} (hk : k.toNat + 1 = n) (m b : Bool)
    (es : List Event) :
    bitTime b (within k m es (reg v)) = .next (finish (within (BitVec.ofNat 6 n) m es (reg (shiftIn v b)))) := by
  have hlast := (add_one_eq_ofNat_iff (by omega) hn).2 hk
  rw [h v k m b es (by omega), if_pos hlast, hlast]

end

/-! ### The statements about one step -/

/-- Settles O22: the command looked up is the one the decoder reads. -/
theorem stepRunsDecodedCommand : Obligations.StepRunsDecodedCommand := by
  intro s ctrl rest i hin hsel hst hcount hdecode
  rw [decodeFrame_receivedFrame, Decoded.ok.injEq] at hdecode
  refine ⟨rfl, ?_⟩
  rw [step_dispatch hin hsel hst hcount, hdecode]
  cases exec i { s with inputs := rest } <;> rfl

/-- The frame received is the one whose fields stand in the registers (R59). -/
theorem receivedFrame_eq {w : Frame} {s : State} (hwf : w.wellFormed = true) (hcmd : s.cmd = frameNumber w)
    (harg : s.arg = (frameFields w).arg) (hchecksum : s.checksum = (frameFields w).checksum) :
    receivedFrame (frameFields w).discarded s = w := by
  rw [receivedFrame, hcmd, harg, hchecksum, ← (wellFormed_iff_extractLsb' w).1 hwf, append_frameFields]

/-- Settles O23: a placed frame is a frame received but for its last bit. -/
theorem placedWordRunsNext : Obligations.PlacedWordRunsNext := by
  intro s w i hdecode
  obtain ⟨hwf, hi⟩ := (decodeFrame_eq_ok_iff _ _ i).1 hdecode
  obtain ⟨-, hnumber, hfields⟩ := selectCommand_spec (decodeMode s) (frameNumber (frameOfTableWord 48 w))
    (frameFields (frameOfTableWord 48 w))
  rw [hi, hnumber, hfields, ← hi, State.withFetchWord, placeFrame, if_pos hwf]
  refine (stepRunsDecodedCommand _ _ s.inputs i rfl (cardSelected_selectedCtrl _) rfl rfl ?_).2
  rw [mosi_selectedCtrl, receivedFrame_eq hwf rfl rfl rfl]
  exact hdecode

/-- Settles O27, state by state: the three fields shift in alike, and the last bit of the frame dispatches. -/
theorem framerTransitions : Obligations.FramerTransitions := by
  intro s ctrl rest hin hsel
  have hstep := step_selected s ctrl rest hin hsel
  refine ⟨fun hst hb => ?_, fun hst hb => ?_, fun hst hb => ?_, fun hst hb => ?_, fun hst hk => ?_, fun hst hk => ?_,
    fun hst hk => ?_, fun hst hk => ?_, fun hst hk => ?_, fun hst hk => ?_⟩
  · rw [step_idle hin hsel hst, hb]; rfl
  · rw [step_idle hin hsel hst, hb]; rfl
  · rw [step_recvBit1 hin hsel hst, hb]; rfl
  · rw [step_recvBit1 hin hsel hst, hb]; rfl
  · exact hstep.trans ((receivesField_cmd hst).bitTime_within (by decide) s.cmd (by omega) s.miso _ rest)
  · exact hstep.trans ((receivesField_cmd hst).bitTime_last (by decide) s.cmd (congrArg (·.toNat + 1) hk) s.miso _ rest)
  · exact hstep.trans ((receivesField_arg hst).bitTime_within (by decide) s.arg (by omega) s.miso _ rest)
  · exact hstep.trans ((receivesField_arg hst).bitTime_last (by decide) s.arg (congrArg (·.toNat + 1) hk) s.miso _ rest)
  · refine (hstep.trans (receivesField_checksum hst s.checksum s.bitcount s.miso _ rest hk)).trans ?_
    exact congrArg _ (ite_self _)
  · obtain ⟨t, ht⟩ := exec_isNext (dispatchedCommand (mosi ctrl) s) { s with inputs := rest }
    exact ⟨t, ht, by rw [step_dispatch hin hsel hst hk, ht]; rfl⟩

end Sys2Proof.Machine
end

section
/-! The reception of a whole frame (40_command_framer.md R87, R88): a field on the wire ends in its register, and six
parts in turn are a frame. -/

namespace Sys2Proof.Machine

/-! ### One field -/

/-- Shifting the next bit of `x` in below its first `k` bits gives its first `k + 1` bits. -/
theorem shiftIn_ushiftRight {n k : Nat} (x : BitVec n) (hk : k < n) :
    shiftIn (x >>> (n - k)) (x.getMsbD k) = x >>> (n - (k + 1)) := by
  ext i hi
  rw [shiftIn, BitVec.getElem_or, BitVec.getElem_shiftLeft, BitVec.getElem_ushiftRight]
  cases i with
  | zero => simp [BitVec.getMsbD, hk, show n - 1 - k = n - (k + 1) by omega]
  | succ i => simp [show n - k + i = n - (k + 1) + (i + 1) by omega]

section
variable {n : Nat} {reg : BitVec n → State} {finish : State → State} (h : ReceivesField reg finish)
  (hfinish : ∀ t, (finish t).miso = t.miso) (hn : n < 64) (x : BitVec n) (m : Bool) (rest : List Event)
include h hfinish hn

/-- The rest of a field, from bit `k` on. -/
theorem ReceivesField.trace_from (cs : List Ctrl) (k : BitVec 6) (hsel : allSelected cs) (hne : cs ≠ [])
    (hk : k.toNat + cs.length = n) (hbits : cs.map mosi = (List.range' k.toNat cs.length).map x.getMsbD) :
    trace cs.length (within k m (edges cs ++ rest) (reg (x >>> (n - k.toNat)))) =
      some (List.replicate cs.length m, finish (within (BitVec.ofNat 6 n) m rest (reg x))) := by
  induction cs generalizing k with
  | nil => exact absurd rfl hne
  | cons c cs ih =>
    rw [List.length_cons] at hk
    rw [List.length_cons, List.range'_succ, List.map_cons, List.map_cons, List.cons.injEq] at hbits
    obtain ⟨hbit, hbits⟩ := hbits
    have hshift := shiftIn_ushiftRight x (show k.toNat < n by omega)
    have hstep := step_selected (within k m (edges (c :: cs) ++ rest) (reg (x >>> (n - k.toNat)))) c _ rfl
      (hsel c (by simp))
    rw [hbit] at hstep
    by_cases hend : cs = []
    · subst hend
      have hfull : n - (k.toNat + 1) = 0 := Nat.sub_eq_zero_of_le hk.ge
      have hlast := hstep.trans (h.bitTime_last hn _ hk m _ rest)
      rw [hshift, hfull, BitVec.ushiftRight_zero] at hlast
      exact (trace_of_step hlast rfl).trans (by rw [hfinish]; rfl)
    · have hpos := List.length_pos_iff.2 hend
      have hk1 : (k + 1#6).toNat = k.toNat + 1 := by rw [BitVec.toNat_add, BitVec.toNat_ofNat]; omega
      have hlt : k.toNat + 1 < n := by omega
      have hwithin := hstep.trans (h.bitTime_within hn _ hlt m _ _)
      have htail := ih (k + 1#6) (fun c hc => hsel c (List.mem_cons_of_mem _ hc)) hend (by omega)
        (by rw [hk1]; exact hbits)
      rw [hk1, ← hshift] at htail
      exact trace_of_step hwithin htail

/-- A whole field, from its first bit-time: it ends in its register. -/
theorem ReceivesField.trace_eq (hpos : 0 < n) {cs : List Ctrl} (hsel : allSelected cs)
    (hbits : cs.map mosi = wireBits x) :
    trace n (within 0#6 m (edges cs ++ rest) (reg 0#n)) =
      some (List.replicate n m, finish (within (BitVec.ofNat 6 n) m rest (reg x))) := by
  have hlen : cs.length = n := by simpa [wireBits] using congrArg List.length hbits
  have hrun := h.trace_from hfinish hn x m rest cs 0#6 hsel (List.length_pos_iff.1 (by omega)) (by simpa using hlen)
    (by rw [hbits, hlen, wireBits, List.range_eq_range']; rfl)
  rwa [hlen, show x >>> (n - (0#6).toNat) = 0#n from BitVec.ushiftRight_eq_zero le_rfl] at hrun

end

/-! ### The whole frame -/

/-- The bits of a frame on the wire, part by part (R59, R60). -/
theorem wireBits_frame {w : Frame} (hwf : w.wellFormed = true) :
    wireBits w = false :: true :: (wireBits (frameNumber w) ++ (wireBits (frameFields w).arg ++
      (wireBits (frameFields w).checksum ++ [(frameFields w).discarded]))) := by
  have hlast : ∀ b, wireBits (BitVec.ofBool b) = [b] := by decide
  conv_lhs => rw [← append_frameFields w, (wellFormed_iff_extractLsb' w).1 hwf]
  simp only [wireBits_append, hlast, List.append_assoc]
  rfl

/-- Edges that carry a frame, cut where its parts begin (R59, R60). -/
theorem edges_of_frame {w : Frame} {cs : List Ctrl} (hwf : w.wellFormed = true) (hbits : cs.map mosi = wireBits w) :
    ∃ start second last ns as ks, cs = start :: second :: (ns ++ (as ++ (ks ++ [last]))) ∧
      mosi start = false ∧ mosi second = true ∧ ns.map mosi = wireBits (frameNumber w) ∧
      as.map mosi = wireBits (frameFields w).arg ∧ ks.map mosi = wireBits (frameFields w).checksum ∧
      mosi last = (frameFields w).discarded := by
  rw [wireBits_frame hwf] at hbits
  obtain ⟨start, _, rfl, hstart, hbits⟩ := List.map_eq_cons_iff.1 hbits
  obtain ⟨second, _, rfl, hsecond, hbits⟩ := List.map_eq_cons_iff.1 hbits
  obtain ⟨ns, _, rfl, hns, hbits⟩ := List.map_eq_append_iff.1 hbits
  obtain ⟨as, _, rfl, has, hbits⟩ := List.map_eq_append_iff.1 hbits
  obtain ⟨ks, _, rfl, hks, hbits⟩ := List.map_eq_append_iff.1 hbits
  obtain ⟨last, rfl, hlast⟩ := List.map_eq_singleton_iff.1 hbits
  exact ⟨start, second, last, ns, as, ks, rfl, hstart, hsecond, hns, has, hks, hlast⟩

/-- The block as it dispatches the frame `w`, which it has received from the state `s`. -/
def received (w : Frame) (es : List Event) (s : State) : State :=
  { s with
    inputs := es, state := .recvChecksum, bitcount := 7#6, cmd := frameNumber w, arg := (frameFields w).arg,
    checksum := (frameFields w).checksum, miso := true }

theorem allSelected_append {cs ds : List Ctrl} : allSelected (cs ++ ds) ↔ allSelected cs ∧ allSelected ds :=
  List.forall_mem_append

theorem allSelected_cons {c : Ctrl} {cs : List Ctrl} :
    allSelected (c :: cs) ↔ cardSelected c = true ∧ allSelected cs :=
  List.forall_mem_cons

/-- A dispatch leaves `miso` alone (R31). -/
theorem exec_miso {i : Instr} {s t : State} (ht : exec i s = .next t) : t.miso = s.miso := by
  rcases exec_cases i s with ⟨-, -, h⟩ | ⟨-, -, h⟩ | ⟨-, -, h⟩ | ⟨-, -, h⟩ | ⟨-, -, h⟩ | ⟨-, h⟩ <;>
    (rw [h] at ht; cases ht; rfl)

/-- From Idle, the two framing bits (R82, R83). -/
theorem trace_framingBits {start second : Ctrl} {es : List Event} {s : State} (hstart : mosi start = false)
    (hsecond : mosi second = true) (hsel : cardSelected start = true) (hsel' : cardSelected second = true)
    (hst : s.state = .idle) (hin : s.inputs = .edge start :: .edge second :: es) :
    trace 2 s = some ([true, true],
      { s with inputs := es, miso := true, state := .recvCmdNr, bitcount := 0#6, cmd := 0#6 }) := by
  have hidle := step_idle hin hsel hst
  rw [hstart] at hidle
  have hrecvBit1 := step_recvBit1 (s := idleStep false { s with inputs := .edge second :: es }) rfl hsel' rfl
  rw [hsecond] at hrecvBit1
  exact trace_of_step hidle (trace_of_step hrecvBit1 rfl)

/-- From Idle, all of a frame but its last bit. -/
theorem trace_received {w : Frame} {cs : List Ctrl} {rest : List Event} {s : State} (hwf : w.wellFormed = true)
    (hsel : allSelected cs) (hbits : cs.map mosi = wireBits w) (hst : s.state = .idle)
    (hin : s.inputs = edges cs ++ rest) :
    ∃ last, cardSelected last = true ∧ mosi last = (frameFields w).discarded ∧
      trace 47 s = some (List.replicate 47 true, received w (.edge last :: rest) s) := by
  obtain ⟨start, second, last, ns, as, ks, rfl, hstart, hsecond, hns, has, hks, hlast⟩ := edges_of_frame hwf hbits
  simp only [allSelected_cons, allSelected_append] at hsel
  obtain ⟨hsel0, hsel1, hselN, hselA, hselK, hselL, -⟩ := hsel
  refine ⟨last, hselL, hlast, ?_⟩
  have hin' : s.inputs =
      .edge start :: .edge second :: (edges ns ++ (edges as ++ (edges ks ++ .edge last :: rest))) := by
    simp [hin, edges]
  have hframing := trace_framingBits hstart hsecond hsel0 hsel1 hst hin'
  have hnumber := (receivesField_cmd (s := { s with state := .recvCmdNr }) rfl).trace_eq (fun _ => rfl) (by decide)
    (frameNumber w) true (edges as ++ (edges ks ++ .edge last :: rest)) (by decide) hselN hns
  have harg := (receivesField_arg (s := { s with state := .recvArg, cmd := frameNumber w }) rfl).trace_eq (fun _ => rfl)
    (by decide) (frameFields w).arg true (edges ks ++ .edge last :: rest) (by decide) hselA has
  have hchecksum := (receivesField_checksum (s := { s with
    state := .recvChecksum, cmd := frameNumber w, arg := (frameFields w).arg }) rfl).trace_eq (fun _ => rfl)
    (by decide) (frameFields w).checksum true (.edge last :: rest) (by decide) hselK hks
  exact trace_append hframing (trace_append hnumber (trace_append harg hchecksum))

/-- The command dispatched after the frame `w` is the one the decoder reads from it (R63, R88). -/
theorem decodeFrame_received {w : Frame} (hwf : w.wellFormed = true) (es : List Event) (s : State) :
    decodeFrame (decodeMode s) w = .ok (dispatchedCommand (frameFields w).discarded (received w es s)) := by
  have hdecode := decodeFrame_receivedFrame (frameFields w).discarded (received w es s)
  rwa [receivedFrame_eq hwf rfl rfl rfl] at hdecode

/-- Settles O29: 47 edges receive the frame but for its last bit, and the last one dispatches it. -/
theorem frameReceptionDispatches : Obligations.FrameReceptionDispatches := by
  intro w cs rest s hwf hsel hbits hst hin
  obtain ⟨last, hselL, hlast, hrun⟩ := trace_received hwf hsel hbits hst hin
  obtain ⟨t, ht⟩ := exec_isNext (dispatchedCommand (frameFields w).discarded (received w (.edge last :: rest) s))
    (received w rest s)
  refine ⟨_, t, decodeFrame_received hwf (.edge last :: rest) s, ht, ?_⟩
  have hstep : step (received w (.edge last :: rest) s) = .next (enter .sendResponse t) := by
    rw [step_dispatch rfl hselL rfl rfl, hlast]
    exact congrArg (andThen · (enter .sendResponse)) ht
  have hmiso : (enter .sendResponse t).miso = true := exec_miso ht
  have hfull := trace_append hrun (trace_of_step (k := 0) hstep rfl)
  rwa [hmiso] at hfull

end Sys2Proof.Machine
end

section
/-! The idle level of `miso` during reception (40_command_framer.md R87): only Idle leads into the receive states, and
it drives 1. -/

namespace Sys2Proof.Machine

/-- The four states that receive a frame after its start bit (R83 to R86). -/
def receiving : CardState → Bool
  | .recvBit1 | .recvCmdNr | .recvArg | .recvChecksum => true
  | _ => false

theorem receiving_iff (st : CardState) :
    receiving st = true ↔ st = .recvBit1 ∨ st = .recvCmdNr ∨ st = .recvArg ∨ st = .recvChecksum := by
  cases st <;> decide

theorem receptionHigh_iff (s : State) : receptionHigh s ↔ (receiving s.state = true → s.miso = true) := by
  rw [receiving_iff, receptionHigh]

/-- No response byte ends in a receive state (R108). -/
theorem receiving_tail (s : State) : receiving (tail s) = false := by
  unfold tail
  split_ifs <;> rfl

/-- No sending state leads into a receive state (R113, R119). -/
theorem receiving_eq_false_of_sending {b : Bool} {s t : State} (hidle : s.state ≠ .idle)
    (hs : receiving s.state = false) (ht : bitTime b s = .next t) : receiving t.state = false := by
  cases hst : s.state
  case idle => exact absurd hst hidle
  case recvBit1 | recvCmdNr | recvArg | recvChecksum => rw [hst] at hs; cases hs
  case sendResponse =>
    simp only [bitTime, hst, sendResponseStep] at ht
    cases ht
    split
    · exact receiving_tail _
    · exact hs
  case sendData =>
    simp only [bitTime, hst] at ht
    rcases sendDataStep_cases s with ⟨-, e⟩ | ⟨-, e⟩ | ⟨byte, -, -, e⟩ | ⟨byte, -, -, e⟩ <;> rw [e] at ht <;> cases ht
    · exact hs
    · split
      · rfl
      · exact hs
  case waitRead =>
    simp only [bitTime, hst, waitReadStep] at ht
    cases ht
    split
    all_goals
      split
      · rfl
      · exact hs
  case sendIfCond | sendCrc =>
    simp only [bitTime, hst, sendIfCondStep, sendCrcStep] at ht
    split at ht <;> cases ht
    split
    · rfl
    · exact hs
  case sendOcr | sendStart =>
    simp only [bitTime, hst, sendOcrStep, sendStartStep] at ht
    cases ht
    split
    · rfl
    · exact hs

/-- Idle drives 1, a receive state leaves `miso` alone until its dispatch, and no other state leads into one. -/
theorem receptionHigh.after_bitTime {b : Bool} {s t : State} (h : receptionHigh s) (ht : bitTime b s = .next t) :
    receptionHigh t := by
  rw [receptionHigh_iff] at h ⊢
  by_cases hidle : s.state = .idle
  · simp only [bitTime, hidle] at ht
    cases ht
    exact fun _ => by cases b <;> rfl
  cases hs : receiving s.state with
  | false => simp [receiving_eq_false_of_sending hidle hs ht]
  | true =>
    rcases bitTime_cases ht with ⟨-, -, u, -, rfl⟩ | ⟨-, -, -, -, -, -, -, -, -, -, hmiso⟩
    · exact nofun
    · exact fun _ => (hmiso ((receiving_iff _).1 hs)).trans (h hs)

/-- Settles O56: of the operations but a foreign write only a bit-time writes `miso` or leads into a receive state. -/
theorem receptionKeepsMisoHigh : Obligations.ReceptionKeepsMisoHigh := by
  intro s t h hforeign ht
  rcases step_eq_next ht with ⟨-, rfl⟩ | ⟨e, rest, hin, hp⟩
  · exact h
  have hrest : receptionHigh { s with inputs := rest } := h
  cases e with
  | edge ctrl =>
    cases hsel : cardSelected ctrl with
    | true => exact hrest.after_bitTime ((edge_of_selected _ _ hsel).symm.trans hp)
    | false =>
      rw [perform, edge_of_deselected _ _ hsel] at hp
      cases hp
      exact h
  | provide bytes =>
    cases hp
    rcases provide_cases bytes { s with inputs := rest } with ⟨-, hstate⟩ | ⟨-, hstate⟩ <;> rw [hstate] <;> exact h
  | otherWrite ctrl b => exact absurd hin (hforeign ctrl b rest)
  | reset =>
    cases hp
    rw [receptionHigh_iff]
    exact nofun
  | poll | inUse | probe => cases hp; exact h

end Sys2Proof.Machine
end

section
/-! What a dispatch leaves alone (41_command_dispatch.md R93, R97, R105), and which registers each command writes. -/

namespace Sys2Proof.Machine

/-- A command is known by its mode and its number. -/
theorem eq_selectCommand {m : CmdMode} {n : BitVec 6} {i : Instr} (hm : i.mode = m) (hn : i.number = n) :
    i = selectCommand m n i.fields := by
  rw [← hm, ← hn, selectCommand_self]

section
variable {i : Instr} {s t : State} (ht : exec i s = .next t)
include ht

/-- A dispatch rejects exactly what the command map does not accept (R64, R105). -/
theorem invalidCommand_of_exec : t.invalidCommand = !tableAccepts i.mode i.number i.fields.arg := by
  obtain ⟨u, hu, -, hinvalid⟩ := exec_invalidCommand i s
  rw [ht] at hu
  cases hu
  exact hinvalid

/-- A rejected command has had no effect but on the two flags of every dispatch (R149). -/
theorem eq_of_exec_of_invalidCommand (hinvalid : t.invalidCommand = true) :
    t = { s with appCommand := false, invalidCommand := true } := by
  rcases exec_cases i s with ⟨-, -, h⟩ | ⟨-, -, h⟩ | ⟨-, -, h⟩ | ⟨-, -, h⟩ | ⟨-, -, h⟩ | ⟨-, h⟩ <;>
    rw [h] at ht <;> cases ht
  case inr.inr.inr.inr.inr => rfl
  all_goals exact absurd hinvalid Bool.false_ne_true

/-- The mode flag after a dispatch says whether the command was CMD55 (R97, R100). -/
theorem exec_appCommand : t.appCommand = true ↔ i.mode = .cmd ∧ i.number = 55#6 := by
  rcases exec_cases i s with ⟨hm, hn, h⟩ | ⟨hm, hn, h⟩ | ⟨hm, hn, h⟩ | ⟨hm, hn, h⟩ | ⟨hm, hn, h⟩ | ⟨hrej, h⟩ <;>
    rw [h] at ht <;> cases ht
  case inr.inr.inr.inl => simp [hm, hn]
  case inr.inl => rcases hn with hn | hn | ⟨hn, -⟩ <;> simp [hn]
  case inr.inr.inr.inr.inr =>
    have hnot : ¬(i.mode = .cmd ∧ i.number = 55#6) := fun ⟨hm, hn⟩ => by simp [hm, hn, tableAccepts] at hrej
    simp [hnot]
  all_goals simp [hn]

/-- Only CMD0 and ACMD41 write the idle flag (R95, R102). -/
theorem exec_idleFlag :
    (i.mode = .cmd ∧ i.number = 0#6) ∨ (i.mode = .acmd ∧ i.number = 41#6) ∨ t.idleFlag = s.idleFlag := by
  rcases exec_cases i s with ⟨hm, hn, -⟩ | ⟨-, -, h⟩ | ⟨-, -, h⟩ | ⟨-, -, h⟩ | ⟨hm, hn, -⟩ | ⟨-, h⟩
  case inl => exact .inl ⟨hm, hn⟩
  case inr.inr.inr.inr.inl => exact .inr (.inl ⟨hm, hn⟩)
  all_goals
    rw [h] at ht
    cases ht
    exact .inr (.inr rfl)

/-- Only CMD17 writes the registers of a read (R99). -/
theorem exec_request :
    (i.mode = .cmd ∧ i.number = 17#6) ∨
      (t.pending = s.pending ∧ t.blockAddress = s.blockAddress ∧ t.crc = s.crc) := by
  rcases exec_cases i s with ⟨-, -, h⟩ | ⟨-, -, h⟩ | ⟨hm, hn, -⟩ | ⟨-, -, h⟩ | ⟨-, -, h⟩ | ⟨-, h⟩
  case inr.inr.inl => exact .inl ⟨hm, hn⟩
  all_goals
    rw [h] at ht
    cases ht
    exact .inr ⟨rfl, rfl, rfl⟩

/-- What a dispatch writes: the three flags and the three registers of a read (R93 to R104). -/
theorem exec_frame :
    t = { s with
      appCommand := t.appCommand, invalidCommand := t.invalidCommand, idleFlag := t.idleFlag,
      pending := t.pending, blockAddress := t.blockAddress, crc := t.crc } := by
  rcases exec_cases i s with ⟨-, -, h⟩ | ⟨-, -, h⟩ | ⟨-, -, h⟩ | ⟨-, -, h⟩ | ⟨-, -, h⟩ | ⟨-, h⟩ <;>
    (rw [h] at ht; cases ht; rfl)

end

/-- Settles O16: of the steps only a bit-time that dispatches and a reset write `appCommand`. -/
theorem applicationModeLastsOneFrame : Obligations.ApplicationModeLastsOneFrame := by
  refine ⟨fun i s t ht => exec_appCommand ht, fun s t ht hne => ?_⟩
  rcases step_cases ht with ⟨rest, hin, -⟩ | ⟨bytes, rest, -, -, rfl⟩ | ⟨ctrl, rest, hin, hsel, hbit⟩ | hsame
  · exact .inr ⟨rest, hin⟩
  · exact absurd rfl hne
  · rcases bitTime_cases hbit with ⟨hst, hcount, -⟩ | ⟨hsame, -⟩
    · exact .inl ⟨ctrl, rest, hin, hsel, hst, hcount⟩
    · exact absurd hsame hne
  · exact absurd (by rw [hsame]) hne

/-- Settles O17: CMD0, ACMD41 and CMD17 are known by mode and number, and no command writes the other registers. -/
theorem dispatchFrame : Obligations.DispatchFrame := by
  intro i s t ht
  refine ⟨?_, ?_, fun hi => ?_, fun hi => ?_⟩
  · rw [exec_frame ht]; simp
  · rw [exec_frame ht]; exact fun _ => rfl
  · rcases exec_idleFlag ht with ⟨hm, hn⟩ | ⟨hm, hn⟩ | hsame
    · exact absurd (eq_selectCommand hm hn) (hi i.fields).1
    · exact absurd (eq_selectCommand hm hn) (hi i.fields).2
    · exact hsame
  · exact (exec_request ht).resolve_left fun ⟨hm, hn⟩ => hi i.fields (eq_selectCommand hm hn)

/-- Settles O18: a dispatch rejects what the map does not accept, and the map reads mode, number and argument. -/
theorem acceptanceIgnoresCardStatus : Obligations.AcceptanceIgnoresCardStatus := by
  intro m n f g s u t v harg ht hv
  have haccept := invalidCommand_of_exec ht
  have haccept' := invalidCommand_of_exec hv
  obtain ⟨hm, hn, hf⟩ := selectCommand_spec m n f
  obtain ⟨hm', hn', hg⟩ := selectCommand_spec m n g
  rw [hm, hn, hf] at haccept
  rw [hm', hn', hg, ← harg] at haccept'
  exact ⟨haccept.trans haccept'.symm, haccept⟩

end Sys2Proof.Machine
end

section
/-! The result of every command (41_command_dispatch.md sections 2 and 3): next state, response byte, tail. -/

namespace Sys2Proof.Machine

/-! ### The response byte and the tail -/

/-- The response byte of a handled command reports the idle flag alone (R66). -/
theorem responseByte_of_handled {t : State} (h : t.invalidCommand = false) :
    responseByte t = if t.idleFlag then 0x01#8 else 0x00#8 := by
  cases hidle : t.idleFlag <;> rw [responseByte, h, hidle] <;> decide

/-- The response byte of a rejected command also carries the weight of `invalidCommand` (R66). -/
theorem responseByte_of_rejected {t : State} (h : t.invalidCommand = true) :
    responseByte t = if t.idleFlag then 0x05#8 else 0x04#8 := by
  cases hidle : t.idleFlag <;> rw [responseByte, h, hidle] <;> decide

theorem tailOf_eq {i : Instr} {s t : State} (ht : exec i s = .next t) : tailOf i s = some (tail t) := by
  rw [tailOf, ht]

/-- The tail of a command whose number stands in `cmd` is the command map's (R64, R108). -/
theorem tailOf_eq_tableTail {i : Instr} {s : State} (hcmd : s.cmd = i.number) :
    tailOf i s =
      some (if tableAccepts i.mode i.number i.fields.arg then tableTail i.mode i.number else .idle) := by
  obtain ⟨t, ht, -, htail⟩ := (acceptedCommandMap.1 i.mode i.number i.fields s).2
  rw [selectCommand_self] at ht
  rw [tailOf_eq ht, htail hcmd]

/-! ### The rejected commands -/

/-- The whole result of a command that the map does not accept (R103, R104). -/
theorem exec_of_rejected {i : Instr} (s : State) (hrej : tableAccepts i.mode i.number i.fields.arg = false) :
    ∃ t, exec i s = .next t ∧ t = { s with appCommand := false, invalidCommand := true } ∧
      responseByte t = (if s.idleFlag then 0x05#8 else 0x04#8) ∧ tailOf i s = some .idle := by
  obtain ⟨t, ht⟩ := exec_isNext i s
  have hinvalid : t.invalidCommand = true := by rw [invalidCommand_of_exec ht, hrej]; rfl
  obtain rfl := eq_of_exec_of_invalidCommand ht hinvalid
  exact ⟨_, ht, rfl, responseByte_of_rejected rfl, by rw [tailOf_eq ht, tail_of_rejected rfl]⟩

/-- Settles O13: the map accepts six numbers in CMD mode. -/
theorem illegalCmdIsRejected : Obligations.IllegalCmdIsRejected := by
  refine ⟨by decide, fun i s hm hn => ?_⟩
  have hrej : tableAccepts i.mode i.number i.fields.arg = false := by
    simp only [List.mem_cons, List.not_mem_nil, or_false, not_or] at hn
    simp [hm, tableAccepts, ← BitVec.toNat_inj, hn]
  obtain ⟨t, ht, hstate, hresponse, htail⟩ := exec_of_rejected s hrej
  exact ⟨t, ht, hstate, hresponse, fun _ => htail⟩

/-- Settles O14: the map accepts one number in ACMD mode. -/
theorem illegalAcmdIsRejected : Obligations.IllegalAcmdIsRejected := by
  refine ⟨by decide, fun i s hm hn => ?_⟩
  have hrej : tableAccepts i.mode i.number i.fields.arg = false := by
    simp [hm, tableAccepts, ← BitVec.toNat_inj, hn]
  obtain ⟨t, ht, hstate, hresponse, htail⟩ := exec_of_rejected s hrej
  exact ⟨t, ht, hstate, hresponse, fun _ => htail⟩

/-! ### The accepted commands -/

/-- Settles O6: `idleFlag` is 1 when the response byte reports it. -/
theorem cmd0SetsIdleFlag : Obligations.Cmd0SetsIdleFlag :=
  ⟨decodesFrom_selectCommand .cmd 0#6, fun _ _ =>
    ⟨_, rfl, rfl, responseByte_of_handled rfl, fun hcmd => tailOf_eq_tableTail hcmd⟩⟩

/-- Settles O7: only the tail of CMD8 reads its argument. -/
theorem cmd8HasNoEffect : Obligations.Cmd8HasNoEffect :=
  ⟨decodesFrom_selectCommand .cmd 8#6, fun _ s =>
    ⟨_, rfl, rfl, responseByte_of_handled rfl,
      congrArg (BitVec.setWidth 32) (BitVec.setWidth_eq_extractLsb' (by decide)),
      fun hcmd => tailOf_eq_tableTail hcmd⟩⟩

/-- CMD16 with the one argument it accepts (R98). -/
theorem exec_cmd16_of_accepted {f : CmdFields} (s : State) (harg : f.arg = 512#32) :
    exec (.cmd16 f) s = .next { s with appCommand := false, invalidCommand := false } := by
  have haccept : blockLengthAccepted f.arg = true := decide_eq_true harg
  rw [exec, execCmd16, if_pos haccept]
  rfl

/-- Settles O8: the map accepts number 16 with the argument 512 alone. -/
theorem cmd16AcceptsOnly512 : Obligations.Cmd16AcceptsOnly512 := by
  refine ⟨decodesFrom_selectCommand .cmd 16#6, fun f s => ⟨fun harg => ?_, fun harg => ?_, fun hcmd => ?_⟩⟩
  · exact ⟨_, exec_cmd16_of_accepted s harg, rfl, responseByte_of_handled rfl⟩
  · have hrej : tableAccepts .cmd 16#6 f.arg = false := by simp [tableAccepts, harg]
    obtain ⟨t, ht, hstate, hresponse, -⟩ := exec_of_rejected (i := .cmd16 f) s hrej
    exact ⟨t, ht, hstate, hresponse⟩
  · exact (tailOf_eq_tableTail hcmd).trans (congrArg some (ite_self _))

/-- Settles O9: a request is what `Poll` and `Provide` test, and RecvChecksum has none outstanding. -/
theorem cmd17RequestsBlock : Obligations.Cmd17RequestsBlock := by
  refine ⟨decodesFrom_selectCommand .cmd 17#6, fun f s => ?_, ?_⟩
  · exact ⟨_, rfl, rfl, rfl, fun hfree bytes hlen => (provideAccepted_iff bytes _).2 ⟨hlen, rfl, hfree⟩,
      fun hcmd => tailOf_eq_tableTail hcmd⟩
  · rintro s h ⟨ctrl, rest, -, -, hst, -⟩
    obtain ⟨⟨hpending, hinUse, -⟩, -⟩ := h.phase_at hst
    exact ⟨hpending, hinUse⟩

/-- Settles O10: CMD55 sets the mode flag after the dispatch's clear, and the map does not accept ACMD55. -/
theorem cmd55EntersApplicationMode : Obligations.Cmd55EntersApplicationMode := by
  refine ⟨decodesFrom_selectCommand .cmd 55#6, decodesFrom_selectCommand .acmd 55#6, fun f s => ⟨?_, ?_, ?_⟩⟩
  · exact ⟨_, rfl, rfl, responseByte_of_handled rfl⟩
  · exact fun hcmd => tailOf_eq_tableTail hcmd
  · obtain ⟨t, ht, hstate, hresponse, -⟩ := exec_of_rejected (i := .acmd55 f) s rfl
    exact ⟨t, ht, hstate, hresponse⟩

/-- Every bit-time of SendOcr drives 0 (R110). -/
theorem sendOcrStep_miso (s : State) : (sendOcrStep s).miso = false := by
  simp only [sendOcrStep]
  split <;> rfl

/-- Settles O11: neither the dispatch of CMD58 nor a bit-time of its tail reads a flag. -/
theorem cmd58HasNoEffect : Obligations.Cmd58HasNoEffect := by
  refine ⟨decodesFrom_selectCommand .cmd 58#6, fun f s => ?_, fun b u hst => ?_⟩
  · exact ⟨_, rfl, rfl, responseByte_of_handled rfl, fun hcmd => tailOf_eq_tableTail hcmd⟩
  · exact ⟨sendOcrStep u, by simp only [bitTime, hst], sendOcrStep_miso u⟩

/-- Settles O12: `idleFlag` is 0 when the response byte reports it, and the map does not accept CMD41. -/
theorem acmd41ClearsIdleFlag : Obligations.Acmd41ClearsIdleFlag := by
  refine ⟨decodesFrom_selectCommand .acmd 41#6, decodesFrom_selectCommand .cmd 41#6, fun f s => ⟨?_, ?_, ?_⟩⟩
  · exact ⟨_, rfl, rfl, responseByte_of_handled rfl⟩
  · exact fun hcmd => tailOf_eq_tableTail hcmd
  · obtain ⟨_, ht, rfl, -⟩ := exec_of_rejected (i := .cmd41 f) s rfl
    exact ht

end Sys2Proof.Machine
end

section
/-! The arithmetic of a dispatch (41_command_dispatch.md R106, 20_memory.md R47). -/

namespace Sys2Proof.Machine

/-- CMD16's test is a comparison of unsigned numbers (R98). -/
theorem blockLengthAccepted_iff (arg : BitVec 32) : blockLengthAccepted arg = true ↔ arg.toNat = 512 := by
  rw [blockLengthAccepted, decide_eq_true_iff, ← BitVec.toNat_inj]
  rfl

theorem blockAddressOf_toNat (w : Nat) (arg : BitVec 32) :
    (blockAddressOf w arg).toNat = arg.toNat * 512 % 2 ^ w :=
  BitVec.toNat_ofNat _ _

/-- The product by 512 moves every bit of the argument up by nine places, within the width (R47). -/
theorem blockAddressOf_getLsbD {w k : Nat} (arg : BitVec 32) (hk : k < w) :
    (blockAddressOf w arg).getLsbD k = (decide (9 ≤ k) && arg.getLsbD (k - 9)) := by
  rw [blockAddressOf, BitVec.getLsbD_ofNat, show Config.blockSize = 2 ^ 9 from rfl, Nat.testBit_mul_two_pow]
  simp [hk, BitVec.testBit_toNat]

/-- At any width that holds 512 the block address is a multiple of 512 (R47). -/
theorem blockAddressOf_mod {w : Nat} (arg : BitVec 32) (hw : 9 ≤ w) : (blockAddressOf w arg).toNat % 512 = 0 := by
  have hdvd : 512 ∣ 2 ^ w := Nat.pow_dvd_pow 2 hw
  rw [blockAddressOf_toNat, Nat.mod_mod_of_dvd _ hdvd, Nat.mul_mod_left]

/-- The product does not wrap where the argument's bits and nine more fit the width (R106). -/
theorem blockAddressOf_exact {w n : Nat} {arg : BitVec 32} (harg : arg.toNat < 2 ^ n) (hw : n + 9 ≤ w) :
    (blockAddressOf w arg).toNat = arg.toNat * 512 := by
  rw [blockAddressOf_toNat]
  apply Nat.mod_eq_of_lt
  calc arg.toNat * 512 < 2 ^ n * 2 ^ 9 := Nat.mul_lt_mul_of_pos_right harg (by decide)
    _ = 2 ^ (n + 9) := (Nat.pow_add 2 n 9).symm
    _ ≤ 2 ^ w := Nat.pow_le_pow_right (by decide) hw

/-- Settles O21: the product is a shift by nine bits, exact while the argument's bits and nine more fit the width. -/
theorem dispatchArithmetic : Obligations.DispatchArithmetic := by
  refine ⟨blockLengthAccepted_iff, fun w arg hw => ⟨fun k hk => blockAddressOf_getLsbD arg hk,
    blockAddressOf_mod arg (by omega), blockAddressOf_toNat w arg, ?_⟩, Nat.le_add_right 32 _⟩
  rintro (hwide | hsmall)
  · exact blockAddressOf_exact arg.isLt hwide
  · exact blockAddressOf_exact hsmall hw

end Sys2Proof.Machine
end

section
/-! A whole command on the wire (42_response_formatter.md R107, R108, R111): the response byte is a field like the
others, and the registers it and the tail report are those the dispatch left. -/

namespace Sys2Proof.Machine

/-! ### The response byte -/

/-- What SendResponse drives at each bit-time: the last one drives `idleFlag`, the others what R107 says. -/
theorem responseByte_getMsbD (s : State) {k : BitVec 6} (hk : k.toNat < 8) :
    (responseByte s).getMsbD k.toNat = if k + 1#6 = 8#6 then s.idleFlag else responseBit k s := by
  have hbits : ∀ (invalid idle : Bool) (k : BitVec 6), k.toNat < 8 →
      (((BitVec.ofBool invalid).setWidth 8 <<< 2) ||| (BitVec.ofBool idle).setWidth 8).getMsbD k.toNat =
        if k + 1#6 = 8#6 then idle else if k = 5#6 then invalid else false := by decide
  exact hbits s.invalidCommand s.idleFlag k hk

theorem sendsField_sendResponse {s : State} (hst : s.state = .sendResponse) :
    SendsField (responseByte s) (enter (tail s)) s := by
  intro k m b es hk
  rw [responseByte_getMsbD s hk]
  by_cases hlast : k + 1#6 = 8#6 <;>
    simp [bitTime, within, hst, sendResponseStep, responseBit, countBit, drive, enter, tail, hlast]

/-- The eight bit-times of SendResponse, whatever the host sends meanwhile (R107, R108). -/
theorem trace_sendResponse {cs : List Ctrl} {rest : List Event} {s : State} (hsel : allSelected cs)
    (hlen : cs.length = 8) (hst : s.state = .sendResponse) (hcount : s.bitcount = 0#6)
    (hin : s.inputs = edges cs ++ rest) :
    trace 8 s = some (wireBits (responseByte s),
      { s with inputs := rest, miso := s.idleFlag, bitcount := 0#6, state := tail s }) := by
  have hlast : (responseByte s).getLsbD 0 = s.idleFlag := responseByte_getMsbD s (k := 7#6) (by decide)
  have hrun := (sendsField_sendResponse hst).trace_eq (fun _ => rfl) (by decide) (by decide) hsel hlen hcount hin
  rwa [hlast] at hrun

/-! ### What the dispatch leaves for the response and the tail -/

section
variable {i : Instr} {s t : State} (ht : exec i s = .next t)
include ht

/-- The idle flag after a dispatch: set by CMD0, cleared by ACMD41, kept by every other command (R95, R102). -/
theorem idleFlag_of_exec :
    t.idleFlag = if i.mode = .cmd ∧ i.number = 0#6 then true
      else if i.mode = .acmd ∧ i.number = 41#6 then false else s.idleFlag := by
  split_ifs with hcmd0 hacmd41
  · rw [eq_selectCommand hcmd0.1 hcmd0.2] at ht
    cases ht
    rfl
  · rw [eq_selectCommand hacmd41.1 hacmd41.2] at ht
    cases ht
    rfl
  · exact ((exec_idleFlag ht).resolve_left hcmd0).resolve_left hacmd41

/-- The tail after a dispatch is the command map's, where the command was not rejected (R64, R108, decision D11). -/
theorem tail_of_exec (hcmd : s.cmd = i.number) :
    tail t = if t.invalidCommand then .idle else tableTail i.mode i.number := by
  have htail := (tailOf_eq ht).symm.trans (tailOf_eq_tableTail hcmd)
  rw [invalidCommand_of_exec ht]
  cases hacc : tableAccepts i.mode i.number i.fields.arg <;> simpa [hacc] using htail

end

/-! ### The transaction -/

/-- Settles O31: the frame's 48 edges dispatch the command decoded from it, and eight more send the response byte. -/
theorem commandTransaction : Obligations.CommandTransaction := by
  intro w cs ds rest s hwf hsel hbits hlen hst hin
  obtain ⟨hselC, hselD⟩ := allSelected_append.1 hsel
  obtain ⟨i, t, hdecode, hexec, hframe⟩ := frameReceptionDispatches w cs (edges ds ++ rest) s hwf hselC hbits hst
    (by simpa [edges] using hin)
  have hkept := exec_frame hexec
  have hinputs : t.inputs = edges ds ++ rest := congrArg State.inputs hkept
  have hcmd : t.cmd = frameNumber w := congrArg State.cmd hkept
  have harg : t.arg = w.extractLsb' 8 32 := congrArg State.arg hkept
  obtain ⟨hm, hn, hf⟩ := selectCommand_spec (decodeMode s) (frameNumber w) (frameFields w)
  rw [← ((decodeFrame_eq_ok_iff _ _ _).1 hdecode).2] at hm hn hf
  have hinvalid := invalidCommand_of_exec hexec
  have hidle := idleFlag_of_exec hexec
  have happ := exec_appCommand hexec
  have htail := tail_of_exec hexec hn.symm
  rw [hm, hn] at hinvalid hidle happ htail
  rw [hf] at hinvalid
  have hresponse := trace_sendResponse (s := { t with bitcount := 0#6, state := .sendResponse }) hselD hlen rfl rfl
    hinputs
  exact ⟨{ t with inputs := rest, miso := t.idleFlag, bitcount := 0#6, state := tail t },
    trace_append hframe hresponse, hinvalid, hidle, Bool.eq_iff_iff.2 (happ.trans decide_eq_true_iff.symm), htail, rfl,
    hcmd, harg, rfl⟩

end Sys2Proof.Machine
end

section
/-! The operations between edges (43_block_transfer.md section 3, 60_exceptions.md R158): what a step answers, and a
buffer lent. -/

namespace Sys2Proof.Machine

/-- Settles O40: the step of `Poll` writes its answer, and the answer reads `pending`. -/
theorem pollIsPureRead : Obligations.PollIsPureRead := by
  intro s rest hin
  have hanswer : step s = .next { s with inputs := rest, reply := .poll (pollAnswer s) } := step_cons s .poll rest hin
  rw [hanswer, pollAnswer]
  exact ⟨fun hp => by rw [if_pos hp], fun hp => by rw [hp, if_neg Bool.false_ne_true]⟩

/-- Settles O41: the steps of `InUse` and of the probe write their answers, and the probe's is `probeOf`. -/
theorem inUseAndProbeArePureReads : Obligations.InUseAndProbeArePureReads := by
  refine fun s rest => ⟨fun hin => step_cons s .inUse rest hin, fun hin => ⟨probeOf s, step_cons s .probe rest hin, ?_⟩⟩
  simp [probeOf]

/-- The block after the step that lends a buffer, with `es` to come (R125). -/
def afterLending (bytes : List Byte) (es : List Event) (s : State) : State :=
  { lendBuffer bytes s with inputs := es, reply := .provide true }

section
variable {s : State} {bytes : List Byte} {rest : List Event} (hin : s.inputs = .provide bytes :: rest)
include hin

/-- The step that lends a buffer to a read that waits (R125). -/
theorem step_provide_of_accepted (hlen : bytes.length = 512) (hp : s.pending = true) (hu : s.inUse = false) :
    step s = .next (afterLending bytes rest s) := by
  rw [step_cons s _ rest hin, perform]
  obtain ⟨-, hstate⟩ | ⟨hnot, -⟩ := provide_cases bytes { s with inputs := rest }
  · rw [hstate]; rfl
  · exact absurd ⟨hlen, hp, hu⟩ hnot

/-- The step that refuses a buffer answers, and that is all (R126, decision D13). -/
theorem step_provide_of_refused (hnot : ¬(bytes.length = 512 ∧ s.pending = true ∧ s.inUse = false)) :
    step s = .next { s with inputs := rest, reply := .provide false } := by
  rw [step_cons s _ rest hin, perform]
  obtain ⟨hacc, -⟩ | ⟨-, hstate⟩ := provide_cases bytes { s with inputs := rest }
  · exact absurd hacc hnot
  · rw [hstate]

end

/-- Settles O42: the buffer lent is laid out from index 0. -/
theorem provideLendsBuffer : Obligations.ProvideLendsBuffer := fun _ bytes _ hin hlen hp hu =>
  ⟨_, step_provide_of_accepted hin hlen hp hu, rfl, Memory.read_ofBytes bytes⟩

end Sys2Proof.Machine
end

section
/-! WaitRead and the token bit by bit (43_block_transfer.md R115, R116, R119 to R121, R129): a wait counts to 8 and ends
at the first bit-time from the eighth on that finds a buffer. -/

namespace Sys2Proof.Machine

/-! ### One bit-time -/

/-- The next count of a wait: it saturates at 8 (R115, decision D12). -/
def waitCount (k : BitVec 6) : BitVec 6 := if k < 8#6 then k + 1#6 else k

theorem waitCount_toNat {k : BitVec 6} (hk : k.toNat ≤ 8) : (waitCount k).toNat = min (k.toNat + 1) 8 := by
  unfold waitCount
  split <;> bv_omega

theorem waitCount_eq_eight_iff {k : BitVec 6} (hk : k.toNat ≤ 8) : waitCount k = 8#6 ↔ 7 ≤ k.toNat := by
  have hcount := waitCount_toNat hk
  rw [← BitVec.toNat_inj, hcount, show (8#6).toNat = 8 from rfl]
  omega

/-- Everything a bit-time of WaitRead does: it drives 1 and counts, or ends the wait (R115). -/
theorem waitReadStep_eq (s : State) :
    waitReadStep s = if waitCount s.bitcount = 8#6 ∧ s.inUse = true then enter .sendStart (drive true s)
      else { s with miso := true, bitcount := waitCount s.bitcount } := by
  by_cases hlt : s.bitcount < 8#6
  · simp only [waitReadStep, waitCount, drive_bitcount, hlt, if_true]
    rfl
  · simp only [waitReadStep, waitCount, drive_bitcount, hlt, if_false]
    rfl

section
variable {s : State} {ctrl : Ctrl} {rest : List Event} (hin : s.inputs = .edge ctrl :: rest)
  (hsel : cardSelected ctrl = true) (hst : s.state = .waitRead)
include hin hsel hst

theorem step_waitRead : step s = .next (waitReadStep { s with inputs := rest }) := by
  rw [step_selected s ctrl rest hin hsel]
  simp only [bitTime, hst]

/-- A bit-time that does not find both the eighth count and a buffer leaves the wait as it is. -/
theorem step_wait (hwait : ¬(waitCount s.bitcount = 8#6 ∧ s.inUse = true)) :
    step s = .next { s with inputs := rest, miso := true, bitcount := waitCount s.bitcount } := by
  rw [step_waitRead hin hsel hst, waitReadStep_eq, if_neg hwait]

/-- The bit-time that ends a wait (R115, R120). -/
theorem step_waitEnds (hcount : waitCount s.bitcount = 8#6) (hu : s.inUse = true) :
    step s = .next { s with inputs := rest, miso := true, bitcount := 0#6, state := .sendStart } := by
  rw [step_waitRead hin hsel hst, waitReadStep_eq, if_pos ⟨hcount, hu⟩]
  rfl

end

/-- A bit-time of SendStart: one bit of the token, and the data after its last one (R116). -/
theorem step_sendStart {s : State} {ctrl : Ctrl} {rest : List Event} (hin : s.inputs = .edge ctrl :: rest)
    (hsel : cardSelected ctrl = true) (hst : s.state = .sendStart) (hk : s.bitcount.toNat < 8) :
    step s = .next
      (if s.bitcount + 1#6 = 8#6 then
        enter .sendData (within (s.bitcount + 1#6) (Config.startToken.getMsbD s.bitcount.toNat) rest s)
      else within (s.bitcount + 1#6) (Config.startToken.getMsbD s.bitcount.toNat) rest s) :=
  (step_selected s ctrl rest hin hsel).trans (sendsField_sendStart hst s.bitcount s.miso (mosi ctrl) rest hk)

/-- Settles O28: a wait counts or ends, and the token is a field on the wire. -/
theorem waitAndTokenTransitions : Obligations.WaitAndTokenTransitions := by
  intro s ctrl rest hin hsel
  have hlast : ∀ k : BitVec 6, k = 7#6 ∨ k = 8#6 → waitCount k = 8#6 := by
    rintro k (rfl | rfl) <;> decide
  refine ⟨fun hst hk => ?_, fun hst hk hu => ?_, fun hst hk hu => ?_, fun hst hk => ?_, fun hst hk => ?_⟩
  · have hcount : waitCount s.bitcount = s.bitcount + 1#6 := if_pos (by bv_omega)
    rw [step_wait hin hsel hst (by rw [waitCount_eq_eight_iff (by omega)]; omega), hcount]
  · rw [step_wait hin hsel hst (by simp [hu]), hlast _ hk]
  · exact step_waitEnds hin hsel hst (hlast _ hk) hu
  · have hbits : ∀ k : BitVec 6, k.toNat < 7 → k + 1#6 ≠ 8#6 ∧ Config.startToken.getMsbD k.toNat = true := by decide
    obtain ⟨hnot, hone⟩ := hbits s.bitcount hk
    rw [step_sendStart hin hsel hst (by omega), if_neg hnot, hone]
    rfl
  · rw [step_sendStart hin hsel hst (by rw [hk]; decide), hk]
    rfl

/-! ### Runs -/

/-- A wait without a buffer: every selected edge sends 1 and is counted, up to 8 (R115, R129). -/
theorem trace_wait (cs : List Ctrl) (rest : List Event) (s : State) (hsel : allSelected cs)
    (hst : s.state = .waitRead) (hcount : s.bitcount.toNat ≤ 8) (hu : s.inUse = false)
    (hin : s.inputs = edges cs ++ rest) :
    ∃ k m, trace cs.length s = some (List.replicate cs.length true, within k m rest s) ∧
      k.toNat = min (s.bitcount.toNat + cs.length) 8 := by
  induction cs generalizing s with
  | nil =>
    refine ⟨s.bitcount, s.miso, ?_, by simpa using hcount⟩
    rw [within, show rest = s.inputs from hin.symm]
    rfl
  | cons c cs ih =>
    rw [allSelected_cons] at hsel
    have hstep := step_wait (rest := edges cs ++ rest) hin hsel.1 hst (by simp [hu])
    have hnext := waitCount_toNat hcount
    obtain ⟨k, m, hrun, hk⟩ := ih { s with inputs := edges cs ++ rest, miso := true, bitcount := waitCount s.bitcount }
      hsel.2 hst (by rw [hnext]; omega) hu rfl
    exact ⟨k, m, trace_of_step hstep hrun, by rw [hk, hnext, List.length_cons]; omega⟩

/-- A wait that has its buffer ends with the eighth bit-time, or with the next one where eight have passed (R120, R121,
decision D12). -/
theorem trace_waitEnds (ds : List Ctrl) (rest : List Event) (s : State) (hsel : allSelected ds)
    (hst : s.state = .waitRead) (hcount : s.bitcount.toNat ≤ 8) (hlen : ds.length = max (8 - s.bitcount.toNat) 1)
    (hu : s.inUse = true) (hin : s.inputs = edges ds ++ rest) :
    trace ds.length s = some (List.replicate ds.length true,
      { s with inputs := rest, miso := true, bitcount := 0#6, state := .sendStart }) := by
  induction ds generalizing s with
  | nil => simp at hlen; omega
  | cons d ds ih =>
    rw [allSelected_cons] at hsel
    rw [List.length_cons] at hlen
    have hnext := waitCount_toNat hcount
    by_cases hlast : waitCount s.bitcount = 8#6
    · have hend : ds = [] := by
        rw [waitCount_eq_eight_iff hcount] at hlast
        exact List.length_eq_zero_iff.1 (by omega)
      subst hend
      exact trace_of_step (step_waitEnds hin hsel.1 hst hlast hu) rfl
    · have hstep := step_wait (rest := edges ds ++ rest) hin hsel.1 hst (fun h => hlast h.1)
      rw [waitCount_eq_eight_iff hcount] at hlast
      exact trace_of_step hstep (ih _ hsel.2 hst (by rw [hnext]; omega) (by rw [hnext]; omega) hu rfl)

/-- Settles O34: a wait without a buffer, the lending, and the rest of a wait that has one. -/
theorem waitLastsUntilBuffer : Obligations.WaitLastsUntilBuffer := by
  intro bytes cs ds rest s hlen hsel hmax hst hcount hp hu hin
  obtain ⟨hselC, hselD⟩ := allSelected_append.1 hsel
  obtain ⟨k, m, hwait, hk⟩ := trace_wait cs (.provide bytes :: (edges ds ++ rest)) s hselC hst (by simp [hcount]) hu
    (by simpa using hin)
  rw [hcount, BitVec.toNat_zero] at hk
  have hlend := step_provide_of_accepted (s := within k m (.provide bytes :: (edges ds ++ rest)) s) rfl hlen hp hu
  have hends := trace_waitEnds ds rest
    (afterLending bytes (edges ds ++ rest) (within k m (.provide bytes :: (edges ds ++ rest)) s)) hselD hst
    (by change k.toNat ≤ 8; omega) (by change _ = max (8 - k.toNat) 1; omega) rfl rfl
  exact ⟨m, trace_append (trace_append hwait (trace_of_step (k := 0) hlend rfl)) hends⟩

/-! ### A starved read -/

/-- A read that waits for a block at `address` (R22, R129). -/
def Starved (address : BitVec Config.addrWidth) (s : State) : Prop :=
  s.state = .waitRead ∧ s.pending = true ∧ s.inUse = false ∧ s.blockAddress = address

/-- No operation but an acceptable `Provide` and `Reset` ends a wait (R129). -/
theorem Starved.step_of_cannotEndWait {address : BitVec Config.addrWidth} {e : Event} {rest : List Event} {s : State}
    (h : Starved address s) (he : cannotEndWait e = true) (hin : s.inputs = e :: rest) :
    ∃ t, step s = .next t ∧ Starved address t ∧ t.inputs = rest ∧
      ∀ ctrl, e = .edge ctrl → cardSelected ctrl = true → t.miso = true := by
  have ⟨hst, hp, hu, haddress⟩ := h
  cases e with
  | edge ctrl =>
    cases hsel : cardSelected ctrl with
    | true => exact ⟨_, step_wait hin hsel hst (by simp [hu]), h, rfl, fun _ _ _ => rfl⟩
    | false =>
      refine ⟨_, step_deselected s ctrl rest hin hsel, h, rfl, ?_⟩
      rintro _ ⟨⟩ hsel'
      exact absurd hsel' (by simp [hsel])
  | provide bytes =>
    have hlen : bytes.length ≠ 512 := by simpa [cannotEndWait, bufferWellFormed] using he
    exact ⟨_, step_provide_of_refused hin fun hacc => hlen hacc.1, h, rfl, nofun⟩
  | otherWrite ctrl b =>
    have hsel : cardSelected ctrl = false := by simpa [cannotEndWait] using he
    refine ⟨drive b { s with inputs := rest }, ?_, h, rfl, nofun⟩
    rw [step_cons s _ rest hin, perform, otherWrite, hsel, if_neg Bool.false_ne_true]
  | reset => cases he
  | poll | inUse | probe => exact ⟨_, step_cons s _ rest hin, h, rfl, nofun⟩

/-- A run of such operations: the read stays starved, and every selected edge sends 1 (R129). -/
theorem Starved.trace {address : BitVec Config.addrWidth} (evs rest : List Event) (s : State) (h : Starved address s)
    (hevs : ∀ e ∈ evs, cannotEndWait e = true) (hin : s.inputs = evs ++ rest) :
    ∃ bits t, trace evs.length s = some (bits, t) ∧ Starved address t ∧
      ∀ (k : Nat) (ctrl : Ctrl), evs[k]? = some (.edge ctrl) → cardSelected ctrl = true → bits[k]? = some true := by
  induction evs generalizing s with
  | nil => exact ⟨[], s, rfl, h, by simp⟩
  | cons e evs ih =>
    rw [List.forall_mem_cons] at hevs
    obtain ⟨t, hstep, ht, hin', hone⟩ := h.step_of_cannotEndWait hevs.1 hin
    obtain ⟨bits, u, hrun, hu, hbits⟩ := ih t ht hevs.2 hin'
    refine ⟨t.miso :: bits, u, trace_of_step hstep hrun, hu, fun k ctrl hk hsel => ?_⟩
    cases k with
    | zero => exact congrArg some (hone ctrl (Option.some.inj hk) hsel)
    | succ k => exact hbits k ctrl hk hsel

/-- Settles O39: a starved read stays starved, and `Poll` answers its address. -/
theorem starvedReadStaysParked : Obligations.StarvedReadStaysParked := by
  intro evs rest s hevs hst hp hu hin
  have h : Starved s.blockAddress s := ⟨hst, hp, hu, rfl⟩
  obtain ⟨bits, t, hrun, ⟨hst', hp', hu', haddress⟩, hbits⟩ := h.trace evs rest s hevs hin
  exact ⟨bits, t, hrun, hst', hp', hu', by rw [pollAnswer, if_pos hp', haddress], hbits⟩

end Sys2Proof.Machine
end

section
/-! The running CRC (43_block_transfer.md R123) as one assertion per state of the sequencer, kept like the invariants of
R34. -/

namespace Sys2Proof.Machine

/-- The assertion of each state of the sequencer about the CRC (R99, R117, R123). -/
def CrcPhase (st : CardState) (s : State) : Prop :=
  match st with
  | .sendResponse => readAccepted s → s.crc = Config.crcSeed
  | .waitRead | .sendStart => s.crc = Config.crcSeed
  | .sendData => s.crc = crc16 (s.buf.bytes.take s.bufPos.toNat) Config.crcSeed
  | .sendCrc => s.crc = crc16 s.buf.bytes Config.crcSeed
  | .idle | .recvBit1 | .recvCmdNr | .recvArg | .recvChecksum | .sendIfCond | .sendOcr => True

/-- `CrcInv` is the assertion of the current state. -/
theorem crcInv_iff (s : State) : CrcInv s ↔ CrcPhase s.state s := by
  have hclauses : CrcInv s ↔ (readAnnounced s → s.crc = Config.crcSeed) ∧
      (s.state = .sendData → s.crc = crc16 (s.buf.bytes.take s.bufPos.toNat) Config.crcSeed) ∧
      (s.state = .sendCrc → s.crc = crc16 s.buf.bytes Config.crcSeed) :=
    ⟨fun ⟨hseed, hrun, hall⟩ => ⟨hseed, hrun, hall⟩, fun ⟨hseed, hrun, hall⟩ => ⟨hseed, hrun, hall⟩⟩
  rw [hclauses]
  cases hst : s.state <;> simp [CrcPhase, readAnnounced, hst]

theorem CrcInv.phase_at {s : State} {st : CardState} (h : CrcInv s) (hst : s.state = st) : CrcPhase st s :=
  hst ▸ (crcInv_iff s).1 h

theorem crcInv_of_phase {s : State} {st : CardState} (hst : s.state = st) (h : CrcPhase st s) : CrcInv s := by
  subst hst; exact (crcInv_iff s).2 h

theorem crcInv_enter {st : CardState} {s : State} (h : CrcPhase st s) : CrcInv (enter st s) := crcInv_of_phase rfl h

/-- Where no read is under way nothing is claimed of the CRC. -/
theorem crcInv_of_beforeDispatch {s : State} (h : beforeDispatch s.state = true) : CrcInv s := by
  cases hst : s.state
  case idle | recvBit1 | recvCmdNr | recvArg | recvChecksum => exact crcInv_of_phase hst trivial
  all_goals
    rw [hst] at h
    cases h

/-- Neither `miso` nor `bitcount` matters to the running CRC. -/
theorem CrcInv.after_drive {s : State} (h : CrcInv s) (b : Bool) : CrcInv (drive b s) := { h with }

theorem CrcInv.after_countBit {s : State} (h : CrcInv s) : CrcInv (countBit s) := { h with }

/-- One more bit-time of a field, if what follows its last one (`u`) is as claimed. -/
theorem CrcInv.count {s u : State} {n : BitVec 6} (h : CrcInv s) (hu : CrcInv u) :
    CrcInv (if (countBit s).bitcount = n then u else countBit s) := by
  split
  · exact hu
  · exact h.after_countBit

/-! ### The CRC of the bytes sent -/

/-- Sending the byte at the cursor steps the CRC of the bytes before it (R117, R136). -/
theorem crc16_take_add_one {bytes : List Byte} {k : Nat} {byte : Byte} (h : bytes[k]? = some byte)
    (seed : BitVec 16) : crc16 (bytes.take (k + 1)) seed = crc16Step (crc16 (bytes.take k) seed) byte := by
  simp [crc16, List.take_add_one, h]

/-- Nothing of the buffer has been sent before SendData (R34 I5). -/
theorem Lent.bufPos_eq_zero {s : State} (h : Lent s) (hremaining : s.remaining = 512#10) : s.bufPos.toNat = 0 := by
  obtain ⟨-, -, -, hsum⟩ := h
  simpa [hremaining] using hsum

/-- What SendData reads is the byte of the buffer at the cursor (R28). -/
theorem Lent.getElem?_bufPos {s : State} {byte : Byte} (h : Lent s) (hread : s.buf.read s.bufPos.toNat = some byte) :
    s.buf.bytes[s.bufPos.toNat]? = some byte := by
  obtain ⟨-, -, hblock, -⟩ := h
  rw [← Memory.read_ofBytes, ← (Memory.eq_ofBytes_of_isBlock _ hblock).1, hread]

/-- After the last byte the bytes sent are the whole buffer (R123). -/
theorem Lent.take_bufPos {s : State} (h : Lent s) (hremaining : s.remaining = 0#10) :
    s.buf.bytes.take s.bufPos.toNat = s.buf.bytes := by
  obtain ⟨-, -, hblock, hsum⟩ := h
  have hpos : s.bufPos.toNat = 512 := by simpa [hremaining] using hsum
  exact List.take_of_length_le (by rw [hpos, (Memory.eq_ofBytes_of_isBlock _ hblock).2])

/-! ### One bit-time -/

/-- A dispatch that accepts a read seeds the CRC (R99). -/
theorem crcPhase_dispatch {b : Bool} {s u : State} (hu : exec (dispatchedCommand b s) s = .next u) :
    CrcPhase .sendResponse u := by
  rintro ⟨hcmd, hvalid⟩
  rcases dispatch_cases hu with ⟨-, hn, rfl⟩ | ⟨hn, rfl⟩ | ⟨-, -, rfl⟩ | ⟨hn, rfl⟩ | ⟨-, hn, rfl⟩ | rfl
  case inr.inr.inl => rfl
  case inr.inl => exact absurd hcmd hn
  case inr.inr.inr.inr.inr => cases hvalid
  all_goals
    rw [hn] at hcmd
    exact absurd hcmd (by decide)

/-- The tail of an accepted read begins with the seed, and of the other tails nothing is claimed (R108). -/
theorem crcPhase_tail {s : State} (h : CrcPhase .sendResponse s) : CrcPhase (tail s) s := by
  unfold tail
  split_ifs with hinvalid _ _ hcmd
  · trivial
  · trivial
  · trivial
  · exact h ⟨hcmd, by simpa using hinvalid⟩
  · trivial

/-- The last bit of a frame dispatches, and the others change nothing that is claimed (R86). -/
theorem CrcInv.after_recvChecksumStep {b : Bool} {s t : State} (hst : s.state = .recvChecksum)
    (ht : recvChecksumStep b s = .next t) : CrcInv t := by
  have hbefore : beforeDispatch s.state = true := by rw [hst]; rfl
  by_cases h7 : s.bitcount = 7#6
  · rw [recvChecksumStep_dispatch b s h7] at ht
    obtain ⟨u, hu, rfl⟩ := (andThen_eq_next _ _ _).1 ht
    exact crcInv_enter (crcPhase_dispatch hu)
  · have h8 : ¬(countBit s).bitcount = 8#6 := by rw [countBit_bitcount]; bv_omega
    simp only [recvChecksumStep, h8, if_false] at ht
    split at ht <;> cases ht <;> exact crcInv_of_beforeDispatch hbefore

/-- The wait and its end leave the seed alone (R115). -/
theorem CrcInv.after_waitReadStep {s : State} (h : CrcInv s) (hst : s.state = .waitRead) : CrcInv (waitReadStep s) := by
  have hseed : CrcPhase .waitRead s := h.phase_at hst
  rw [waitReadStep_eq]
  split
  · exact crcInv_enter (st := .sendStart) hseed
  · exact { h with }

/-- After the token no byte has been sent (R116). -/
theorem CrcInv.after_sendStartStep {s : State} (h : CrcInv s) (hinv : Inv s) (hst : s.state = .sendStart) :
    CrcInv (sendStartStep s) := by
  obtain ⟨-, -, hlent, hremaining⟩ := hinv.phase_at hst
  have hseed : s.crc = Config.crcSeed := h.phase_at hst
  have hdata : CrcPhase .sendData s := by
    rw [CrcPhase, hlent.bufPos_eq_zero hremaining, hseed]
    rfl
  exact (h.after_drive _).count (crcInv_enter hdata)

/-- The last bit of a byte folds it into the CRC and moves the cursor past it (R117). -/
theorem CrcInv.after_sendDataStep {s t : State} (h : CrcInv s) (hinv : Inv s) (hst : s.state = .sendData)
    (ht : sendDataStep s = .next t) : CrcInv t := by
  have hkeep := hinv.after_sendDataStep hst ht
  rcases sendDataStep_cases s with ⟨-, e⟩ | ⟨-, e⟩ | ⟨byte, -, -, e⟩ | ⟨byte, hread, -, e⟩ <;> rw [e] at ht <;> cases ht
  · exact (h.after_drive _).after_countBit
  · obtain ⟨-, -, hlent, hremaining⟩ := hinv.phase_at hst
    have hrunning : s.crc = crc16 (s.buf.bytes.take s.bufPos.toNat) Config.crcSeed := h.phase_at hst
    have hpos : (s.bufPos + 1#10).toNat = s.bufPos.toNat + 1 := by
      obtain ⟨-, -, -, hsum⟩ := hlent
      bv_omega
    have hsent : crc16Step s.crc byte = crc16 (s.buf.bytes.take (s.bufPos + 1#10).toNat) Config.crcSeed := by
      rw [hpos, crc16_take_add_one (hlent.getElem?_bufPos hread), ← hrunning]
    by_cases hlast : s.remaining - 1#10 = 0#10
    · rw [if_pos hlast] at hkeep ⊢
      obtain ⟨-, -, hlent', -⟩ := hkeep.phase_at (st := .sendCrc) rfl
      exact crcInv_of_phase (st := .sendCrc) rfl (hsent.trans (congrArg (crc16 · _) (hlent'.take_bufPos hlast)))
    · rw [if_neg hlast]
      exact crcInv_of_phase (st := .sendData) hst hsent

/-- A bit-time keeps the running CRC, whatever the state of the sequencer. -/
theorem CrcInv.after_bitTime {b : Bool} {s t : State} (h : CrcInv s) (hinv : Inv s) (ht : bitTime b s = .next t) :
    CrcInv t := by
  cases hst : s.state <;> simp only [bitTime, hst] at ht
  case recvChecksum => exact .after_recvChecksumStep hst ht
  case sendData => exact h.after_sendDataStep hinv hst ht
  case sendIfCond | sendCrc =>
    simp only [sendIfCondStep, sendCrcStep] at ht
    split at ht <;> cases ht
    exact (h.after_drive _).count (crcInv_enter (st := .idle) trivial)
  all_goals cases ht
  case idle => cases b <;> exact crcInv_of_beforeDispatch (by simp [idleStep, hst, beforeDispatch])
  case recvBit1 => cases b <;> exact crcInv_of_beforeDispatch (by simp [recvBit1Step, beforeDispatch])
  case recvCmdNr =>
    exact CrcInv.count (s := { s with cmd := shiftIn s.cmd b }) (crcInv_of_phase hst trivial)
      (crcInv_enter (st := .recvArg) trivial)
  case recvArg =>
    exact CrcInv.count (s := { s with arg := shiftIn s.arg b }) { h with } (crcInv_enter (st := .recvChecksum) trivial)
  case sendResponse =>
    exact (h.after_drive _).count (crcInv_enter (st := tail s) (crcPhase_tail (h.phase_at hst)))
  case waitRead => exact h.after_waitReadStep hst
  case sendOcr => exact (h.after_drive false).count (crcInv_enter (st := .idle) trivial)
  case sendStart => exact h.after_sendStartStep hinv hst

/-! ### Every operation of every agent -/

/-- Lending a buffer leaves the seed alone (R125). -/
theorem CrcInv.after_lendBuffer {s : State} (h : CrcInv s) (hinv : Inv s) (hp : s.pending = true)
    (bytes : List Byte) : CrcInv (lendBuffer bytes s) := by
  obtain ⟨-, ⟨hst, -⟩ | hst⟩ := hinv.pendingWindow hp
  · exact crcInv_of_phase (st := .sendResponse) hst (h.phase_at hst)
  · exact crcInv_of_phase (st := .waitRead) hst (h.phase_at hst)

/-- Settles O55: a bit-time leads from the assertion of the state it leaves to that of the state it enters, and lending a
buffer leaves the seed alone. -/
theorem stepKeepsRunningCrc : Obligations.StepKeepsRunningCrc := by
  intro s t hinv h ht
  rcases step_cases ht with ⟨rest, -, rfl⟩ | ⟨bytes, rest, -, ⟨-, hp, -⟩, rfl⟩ | ⟨ctrl, rest, -, -, hbit⟩ | hsame
  · exact crcInv_of_beforeDispatch rfl
  · exact { h.after_lendBuffer hinv hp bytes with }
  · have hs : CrcInv { s with inputs := rest } := { h with }
    exact hs.after_bitTime { hinv with } hbit
  · rw [hsame]; exact { h with }

end Sys2Proof.Machine
end

section
/-! A block on the wire, field by field, and a whole read (43_block_transfer.md R117, R118, R121). -/

namespace Sys2Proof.Machine

/-- Settles O35: the byte at the cursor is a field on the wire. -/
theorem dataByteOnWire : Obligations.DataByteOnWire := by
  intro byte cs rest s hsel hlen hst hcount hread hin
  have hrun := (sendsField_sendData hst hread).trace_eq (fun _ => rfl) (by decide) (by decide) hsel hlen hcount hin
  rw [finishByte, show (within 8#6 (byte.getLsbD 0) rest s).state = .sendData from hst] at hrun
  exact hrun

/-- Settles O36: the CRC is a field on the wire, and its end is the end of the borrow. -/
theorem crcOnWire : Obligations.CrcOnWire := fun _ _ _ hsel hlen hst hcount hin =>
  (sendsField_sendCrc hst).trace_eq (fun _ => rfl) (by decide) (by decide) hsel hlen hcount hin

/-- The response byte of a read: 0x00 or 0x01, and the wait begins (R66, R107, R108). -/
theorem trace_sendResponse_of_read {cs : List Ctrl} {rest : List Event} {s : State} (hread : readAccepted s)
    (hsel : allSelected cs) (hlen : cs.length = 8) (hst : s.state = .sendResponse) (hcount : s.bitcount = 0#6)
    (hin : s.inputs = edges cs ++ rest) :
    trace 8 s = some ([false, false, false, false, false, false, false, s.idleFlag],
      { s with inputs := rest, miso := s.idleFlag, bitcount := 0#6, state := .waitRead }) := by
  obtain ⟨hcmd, hvalid⟩ := hread
  have htail : tail s = .waitRead := by simp [tail, hcmd, hvalid]
  have hbits : wireBits (responseByte s) = [false, false, false, false, false, false, false, s.idleFlag] := by
    rw [responseByte_of_handled hvalid]
    cases s.idleFlag <;> decide
  rw [trace_sendResponse hsel hlen hst hcount hin, htail, hbits]

/-- A read from its dispatch on: the buffer is lent, and the response byte, the wait, the token, the block and its CRC
follow (R121 to R123). -/
theorem trace_read {bytes : List Byte} {ds es : List Ctrl} {rest : List Event} {s : State} (hlen : bytes.length = 512)
    (hselD : allSelected ds) (hds : ds.length = 8) (hselE : allSelected es) (hes : es.length = 8 + 8 + 4096 + 16)
    (hst : s.state = .sendResponse) (hcount : s.bitcount = 0#6) (hread : readAccepted s) (hp : s.pending = true)
    (hu : s.inUse = false) (hcrc : s.crc = 0x0000#16) (hmiso : s.miso = true)
    (hin : s.inputs = .provide bytes :: (edges ds ++ (edges es ++ rest))) :
    trace (1 + (8 + (8 + (8 + 4096 + 16)))) s = some
      (true :: ([false, false, false, false, false, false, false, s.idleFlag] ++ (List.replicate 8 true ++
        (wireBits 0xFE#8 ++ bytes.flatMap (fun b => wireBits b) ++ wireBits (crc16 bytes 0x0000#16)))),
        { s with
          inputs := rest, reply := .provide true, miso := (crc16 bytes 0x0000#16).getLsbD 0, bitcount := 0#6,
          state := .idle, pending := false, inUse := false, buf := [], bufPos := 512#10, remaining := 0#10,
          crc := crc16 bytes 0x0000#16 }) := by
  have hlend := trace_of_step (k := 0) (step_provide_of_accepted hin hlen hp hu) rfl
  rw [show (afterLending bytes (edges ds ++ (edges es ++ rest)) s).miso = true from hmiso] at hlend
  have hresponse := trace_sendResponse_of_read (rest := edges es ++ rest)
    (s := afterLending bytes (edges ds ++ (edges es ++ rest)) s) hread hselD hds hst hcount rfl
  have hwait := trace_waitEnds (es.take 8) (edges (es.drop 8) ++ rest)
    { within 0#6 s.idleFlag (edges es ++ rest) (afterLending bytes [] s) with state := .waitRead }
    (hselE.take 8) rfl (Nat.zero_le 8) (List.length_take_of_le (by omega)) rfl (edges_take_drop 8 es rest)
  rw [List.length_take_of_le (by omega)] at hwait
  have hblock := blockOnWire bytes (es.drop 8) rest
    { within 0#6 true (edges (es.drop 8) ++ rest) (afterLending bytes [] s) with state := .sendStart }
    hlen (hselE.drop 8) (by rw [List.length_drop]; omega) rfl rfl rfl rfl rfl hcrc rfl
  exact trace_append hlend (trace_append hresponse (trace_append hwait hblock))

/-- Settles O38: 48 edges dispatch the read, and the rest of it follows. -/
theorem readTransaction : Obligations.ReadTransaction := by
  intro w bytes cs ds es rest s hwf hnumber hlen hsel hbits hds hes hst happ hp hu hin
  simp only [allSelected_append] at hsel
  obtain ⟨⟨hselC, hselD⟩, hselE⟩ := hsel
  obtain ⟨i, t, hdecode, hexec, hframe⟩ := frameReceptionDispatches w cs
    (.provide bytes :: (edges ds ++ (edges es ++ rest))) s hwf hselC hbits hst (by simpa using hin)
  have hmode : decodeMode s = .cmd := by rw [decodeMode, happ]; rfl
  obtain rfl : i = .cmd17 (frameFields w) := by
    rw [((decodeFrame_eq_ok_iff _ _ _).1 hdecode).2, hmode, hnumber]
    rfl
  cases hexec
  have hrun := trace_append hframe (trace_read hlen hselD hds hselE hes rfl rfl ⟨hnumber, rfl⟩ rfl hu rfl rfl rfl)
  refine ⟨_, hrun.trans (congrArg (fun bits => some (bits, _)) ?_), rfl, rfl, rfl, rfl, rfl, rfl, rfl, rfl, rfl, rfl,
    rfl, rfl⟩
  rw [show 49 = 48 + 1 from rfl, List.replicate_succ']
  simp only [List.append_assoc, List.cons_append, List.nil_append]
  rfl

end Sys2Proof.Machine
end

section
/-! The CRC16 engine (44_crc16.md R132 to R137): the rounds are linear, and on a word whose upper bits are clear they
only shift. -/

namespace Sys2Proof.Machine

/-! ### The rounds -/

/-- The index at which the table is read (R132). -/
def crcIndex (c : BitVec 16) (b : Byte) : BitVec 8 := ((c >>> 8) ^^^ b.setWidth 16).setWidth 8

theorem crc16Step_eq (c : BitVec 16) (b : Byte) : crc16Step c b = (c <<< 8) ^^^ crcTable (crcIndex c b) := rfl

theorem crcTable_eq (i : BitVec 8) : crcTable i = crcRounds 8 (i.setWidth 16 <<< 8) := by
  simp [crcTable, crc16Bitwise]

/-- What a round adds to the shifted word: the polynomial when the bit shifted out is 1 (R133). -/
def crcFeedback (r : BitVec 16) : BitVec 16 := if r.getLsbD 15 then Config.crcPoly else 0#16

theorem crcRound_eq (r : BitVec 16) : crcRound r = (r <<< 1) ^^^ crcFeedback r := by
  cases htop : r.getLsbD 15 <;> simp [crcRound, crcFeedback, htop, -BitVec.getLsbD_eq_getElem]

/-- The bit shifted out of an exclusive-or is the exclusive-or of the bits, and two polynomials cancel. -/
theorem crcFeedback_xor (x y : BitVec 16) : crcFeedback (x ^^^ y) = crcFeedback x ^^^ crcFeedback y := by
  rw [crcFeedback, BitVec.getLsbD_xor, crcFeedback, crcFeedback]
  cases x.getLsbD 15 <;> cases y.getLsbD 15 <;> simp

theorem crcRound_xor (x y : BitVec 16) : crcRound (x ^^^ y) = crcRound x ^^^ crcRound y := by
  simp only [crcRound_eq, crcFeedback_xor, BitVec.shiftLeft_xor_distrib]
  ac_rfl

theorem crcRounds_xor (k : Nat) (x y : BitVec 16) : crcRounds k (x ^^^ y) = crcRounds k x ^^^ crcRounds k y := by
  induction k generalizing x y with
  | zero => rfl
  | succ k ih => simp only [crcRounds, crcRound_xor, ih]

/-- No 1 is shifted out of a word whose upper `k` bits are clear, so the polynomial does not enter. -/
theorem crcRounds_eq_shiftLeft (k : Nat) (x : BitVec 16) (hclear : ∀ i, 16 - k ≤ i → x.getLsbD i = false) :
    crcRounds k x = x <<< k := by
  induction k generalizing x with
  | zero => simp [crcRounds]
  | succ k ih =>
    have hround : crcRound x = x <<< 1 := by simp only [crcRound, hclear 15 (by omega), Bool.false_eq_true, if_false]
    have hnext : ∀ i, 16 - k ≤ i → (x <<< 1).getLsbD i = false := fun i hi => by
      simp [hclear (i - 1) (by omega)]
    rw [crcRounds, hround, ih _ hnext, ← BitVec.shiftLeft_add, Nat.add_comm]

/-! ### The table step -/

/-- What the rounds start from is the low byte of the CRC below the index of the table. -/
theorem xor_byte_eq_low_xor_index (c : BitVec 16) (b : Byte) :
    c ^^^ (b.setWidth 16 <<< 8) = (c.setWidth 8).setWidth 16 ^^^ ((crcIndex c b).setWidth 16 <<< 8) := by
  ext i hi
  by_cases hlow : i < 8
  · simp [crcIndex, hlow, BitVec.getLsbD_eq_getElem hi]
  · have hsum : 8 + (i - 8) = i := by omega
    have hindex : i - 8 < 8 := by omega
    simp [crcIndex, hlow, hsum, hindex, BitVec.getLsbD_eq_getElem hi]

/-- The rounds shift the low byte out whole, to where the table step shifts it. -/
theorem crcRounds_low (c : BitVec 16) : crcRounds 8 ((c.setWidth 8).setWidth 16) = c <<< 8 := by
  have hclear : ∀ i, 16 - 8 ≤ i → ((c.setWidth 8).setWidth 16).getLsbD i = false := fun i hi => by
    have hhigh : ¬ i < 8 := by omega
    simp [hhigh]
  rw [crcRounds_eq_shiftLeft 8 _ hclear]
  ext i hi
  have hlow : i - 8 < 8 := by omega
  have hword : i - 8 < 16 := by omega
  simp [hlow, BitVec.getLsbD_eq_getElem hword]

theorem crc16Step_eq_crc16Bitwise (c : BitVec 16) (b : Byte) : crc16Step c b = crc16Bitwise c b := by
  rw [crc16Bitwise, xor_byte_eq_low_xor_index, crcRounds_xor, crcRounds_low, crc16Step_eq, crcTable_eq]

/-- Settles O58: the low byte of the CRC is shifted and its high byte meets the data byte in the table's index. -/
theorem tableStepAgreesWithBitwise : Obligations.TableStepAgreesWithBitwise :=
  crc16Step_eq_crc16Bitwise

/-! ### Laws -/

theorem crc16_append (xs ys : List Byte) (seed : BitVec 16) : crc16 (xs ++ ys) seed = crc16 ys (crc16 xs seed) :=
  List.foldl_append

theorem crc16_replicate_zero (n : Nat) : crc16 (List.replicate n 0x00#8) 0x0000#16 = 0x0000#16 := by
  have hstep : crc16Step 0x0000#16 0x00#8 = 0x0000#16 := by decide
  induction n with
  | zero => rfl
  | succ n ih => rwa [List.replicate_succ, crc16, List.foldl_cons, hstep]

theorem crc16Step_xor (c d : BitVec 16) (a b : Byte) :
    crc16Step (c ^^^ d) (a ^^^ b) = crc16Step c a ^^^ crc16Step d b := by
  have hstart : (c ^^^ d) ^^^ ((a ^^^ b).setWidth 16 <<< 8) =
      (c ^^^ (a.setWidth 16 <<< 8)) ^^^ (d ^^^ (b.setWidth 16 <<< 8)) := by
    rw [BitVec.setWidth_xor, BitVec.shiftLeft_xor_distrib]
    ac_rfl
  simp only [crc16Step_eq_crc16Bitwise, crc16Bitwise, hstart, crcRounds_xor]

/-- The high byte of a CRC cancels in the index. -/
theorem crc16Step_high (c : BitVec 16) : crc16Step c (c.extractLsb' 8 8) = c <<< 8 := by
  have hindex : crcIndex c (c.extractLsb' 8 8) = 0x00#8 := by
    ext i hi
    simp [crcIndex]
  have hentry : crcTable 0x00#8 = 0x0000#16 := by decide
  rw [crc16Step_eq, hindex, hentry, BitVec.xor_zero]

/-- The first byte moves the low byte of the CRC up, the second moves it out. -/
theorem crc16_own_bytes (c : BitVec 16) : crc16 [c.extractLsb' 8 8, c.extractLsb' 0 8] c = 0x0000#16 := by
  have hlow : c.extractLsb' 0 8 = (c <<< 8).extractLsb' 8 8 := by
    ext i hi
    have hword : i < 16 := by omega
    have hshifted : 8 + i < 16 := by omega
    simp [hshifted, BitVec.getLsbD_eq_getElem hword]
  calc crc16 [c.extractLsb' 8 8, c.extractLsb' 0 8] c
      = crc16Step (crc16Step c (c.extractLsb' 8 8)) (c.extractLsb' 0 8) := rfl
    _ = (c <<< 8) <<< 8 := by rw [crc16Step_high, hlow, crc16Step_high]
    _ = 0x0000#16 := by rw [← BitVec.shiftLeft_add]; exact BitVec.shiftLeft_eq_zero (by decide)

/-- Settles O59: zero bytes keep the CRC 0, the step is the linear rounds, and a CRC cancels its own bytes. -/
theorem crcLaws : Obligations.CrcLaws :=
  ⟨crc16_replicate_zero, crc16Step_xor, fun data => by rw [crc16_append, crc16_own_bytes]⟩

end Sys2Proof.Machine
end

section
/-! Exceptions (60_exceptions.md): what a rejection changes (R149), and that within the invariants nothing but a
contended write stops the machine (R145). -/

namespace Sys2Proof.Machine

/-! ### Rejection -/

/-- The step that dispatches ends at the first bit of the response, whatever the command (R86, R149). -/
theorem responseBegins_of_dispatching {s t : State} (hdisp : dispatching s) (ht : step s = .next t) :
    t.state = .sendResponse ∧ t.bitcount = 0#6 := by
  obtain ⟨ctrl, rest, hin, hsel, hst, hcount⟩ := hdisp
  rw [step_dispatch hin hsel hst hcount] at ht
  obtain ⟨u, -, rfl⟩ := (andThen_eq_next _ _ _).1 ht
  exact ⟨rfl, rfl⟩

/-- Settles O20: a rejected command has written its two flags, and every dispatch begins the response. -/
theorem rejectionIsPrecise : Obligations.RejectionIsPrecise :=
  ⟨fun _ _ _ => eq_of_exec_of_invalidCommand, fun _ _ => responseBegins_of_dispatching⟩

/-! ### The bit-times that could stop

A bit-time has a next state by its definition but in four states: RecvChecksum runs a command, and the three others look
up a bit on the wire or a byte of the buffer. -/

/-- RecvChecksum never stops: every command has a result (R145). -/
theorem recvChecksumStep_isNext (b : Bool) (s : State) : ∃ t, recvChecksumStep b s = .next t := by
  unfold recvChecksumStep
  split_ifs
  · obtain ⟨u, hu⟩ := exec_isNext (dispatchedCommand b s) s
    exact ⟨enter .sendResponse u, by rw [hu, andThen_next]⟩
  · exact ⟨_, rfl⟩
  · exact ⟨_, rfl⟩

/-- SendIfCond has a bit to send while its count is below 32 (R109). -/
theorem sendIfCondStep_isNext {s : State} (hcount : s.bitcount.toNat < 32) : ∃ t, sendIfCondStep s = .next t := by
  rw [sendIfCondStep, wireBit_of_lt _ _ hcount]
  exact ⟨_, rfl⟩

/-- SendCrc has a bit to send while its count is below 16 (R118). -/
theorem sendCrcStep_isNext {s : State} (hcount : s.bitcount.toNat < 16) : ∃ t, sendCrcStep s = .next t := by
  rw [sendCrcStep, wireBit_of_lt _ _ hcount]
  exact ⟨_, rfl⟩

/-- A lent buffer of which something is left to send has a byte under the cursor (R28, R34 I4, I5). -/
theorem Lent.exists_read_bufPos {s : State} (h : Lent s) (hleft : 1 ≤ s.remaining.toNat) :
    ∃ byte, s.buf.read s.bufPos.toNat = some byte := by
  obtain ⟨-, -, hblock, hsum⟩ := h
  obtain ⟨byte, hread, -⟩ := Memory.read_of_isBlock s.buf hblock s.bufPos.toNat (by omega)
  exact ⟨byte, hread⟩

/-- SendData has a bit to send: its two stops need a count above 7, or no byte under the cursor (R117). -/
theorem sendDataStep_isNext {s : State} (hcount : s.bitcount.toNat < 8) (hlent : Lent s)
    (hleft : 1 ≤ s.remaining.toNat) : ∃ t, sendDataStep s = .next t := by
  rcases sendDataStep_cases s with ⟨hnone, -⟩ | ⟨hover, -⟩ | ⟨byte, -, -, h⟩ | ⟨byte, -, -, h⟩
  · obtain ⟨byte, hread⟩ := hlent.exists_read_bufPos hleft
    simp [hread] at hnone
  · omega
  · exact ⟨_, h⟩
  · exact ⟨_, h⟩

/-! ### Every operation of every agent -/

/-- Within the invariants no bit-time stops, whatever bit the host sends (R145). -/
theorem Inv.bitTime_isNext {s : State} (h : Inv s) (b : Bool) : ∃ t, bitTime b s = .next t := by
  cases hst : s.state <;> simp only [bitTime, hst]
  case recvChecksum => exact recvChecksumStep_isNext b s
  case sendIfCond => exact sendIfCondStep_isNext (Nat.lt_succ_of_le (h.bitcount_at hst))
  case sendData =>
    obtain ⟨-, -, hlent, hleft⟩ := h.phase_at hst
    exact sendDataStep_isNext (Nat.lt_succ_of_le (h.bitcount_at hst)) hlent hleft
  case sendCrc => exact sendCrcStep_isNext (Nat.lt_succ_of_le (h.bitcount_at hst))
  all_goals exact ⟨_, rfl⟩

/-- Within the invariants no edge stops, whatever the bus register holds (R81, R90). -/
theorem Inv.edge_isNext {s : State} (h : Inv s) (ctrl : Ctrl) : ∃ t, edge ctrl s = .next t := by
  cases hsel : cardSelected ctrl with
  | true => rw [edge_of_selected ctrl s hsel]; exact h.bitTime_isNext (mosi ctrl)
  | false => exact ⟨s, edge_of_deselected ctrl s hsel⟩

/-- Another peripheral may write the flip-flop while the card is deselected (R31, R169). -/
theorem otherWrite_of_deselected {ctrl : Ctrl} (b : Bool) (s : State) (hsel : cardSelected ctrl = false) :
    otherWrite ctrl b s = .next (drive b s) := by
  rw [otherWrite, hsel, if_neg Bool.false_ne_true]

/-- Settles O54: an edge goes on within the invariants, a foreign write when it is not contended, and every other
operation always. -/
theorem noStopWithinInvariants : Obligations.NoStopWithinInvariants := by
  intro s h hcontended
  cases hin : s.inputs with
  | nil => exact ⟨s, step_nil s hin⟩
  | cons e rest =>
    rw [step_cons s e rest hin]
    have hrest : Inv { s with inputs := rest } := { h with }
    cases e with
    | edge ctrl => exact hrest.edge_isNext ctrl
    | otherWrite ctrl b =>
      have hsel : cardSelected ctrl = false := Bool.eq_false_iff.2 fun hsel => hcontended ⟨ctrl, b, rest, hin, hsel⟩
      exact ⟨_, otherWrite_of_deselected b _ hsel⟩
    | poll | provide | inUse | probe | reset => exact ⟨_, rfl⟩

end Sys2Proof.Machine
end

section
/-! The response byte bit by bit (30_encoding.md R66), and its eight bit-times on the wire (42_response_formatter.md R107,
R108). -/

namespace Sys2Proof.Machine

/-- The bits of the response byte in wire order (R66). -/
theorem wireBits_responseByte (s : State) :
    wireBits (responseByte s) = [false, false, false, false, false, s.invalidCommand, false, s.idleFlag] := by
  cases hinvalid : s.invalidCommand with
  | false => rw [responseByte_of_handled hinvalid]; cases s.idleFlag <;> decide
  | true => rw [responseByte_of_rejected hinvalid]; cases s.idleFlag <;> decide

/-- The four values of the response byte (R66). -/
theorem responseByte_values (s : State) :
    responseByte s = 0x00#8 ∨ responseByte s = 0x01#8 ∨ responseByte s = 0x04#8 ∨ responseByte s = 0x05#8 := by
  cases hinvalid : s.invalidCommand with
  | false => rw [responseByte_of_handled hinvalid]; cases s.idleFlag <;> decide
  | true => rw [responseByte_of_rejected hinvalid]; cases s.idleFlag <;> decide

/-- Settles O30: the byte's bits and values are those of its two flags, and the run is that of SendResponse. -/
theorem responseByteOnWire : Obligations.ResponseByteOnWire := fun _ _ s hsel hlen hst hcount hin =>
  ⟨⟨wireBits_responseByte s, responseByte_values s⟩, trace_sendResponse hsel hlen hst hcount hin⟩

end Sys2Proof.Machine
end

section
/-! Who writes `miso` (10_state.md R31). -/

namespace Sys2Proof.Machine

/-- No receive state writes `miso`, not even at its dispatch (R87, decision D7). -/
theorem bitTime_miso_of_receiving {b : Bool} {s t : State} (hs : receiving s.state = true)
    (ht : bitTime b s = .next t) : t.miso = s.miso := by
  rcases bitTime_cases ht with ⟨-, -, u, hu, rfl⟩ | ⟨-, -, -, -, -, -, -, -, -, -, hmiso⟩
  · exact (enter_miso _ u).trans (exec_miso hu)
  · exact hmiso ((receiving_iff _).1 hs)

/-- A step that changes `miso` at an edge is a bit-time outside the receive states (R31, R90). -/
theorem receiving_eq_false_of_edge_miso {ctrl : Ctrl} {s t : State} (ht : edge ctrl s = .next t)
    (hne : t.miso ≠ s.miso) : cardSelected ctrl = true ∧ receiving s.state = false := by
  cases hsel : cardSelected ctrl with
  | true =>
    rw [edge_of_selected ctrl s hsel] at ht
    exact ⟨rfl, Bool.eq_false_iff.2 fun hs => hne (bitTime_miso_of_receiving hs ht)⟩
  | false =>
    rw [edge_of_deselected ctrl s hsel] at ht
    cases ht
    exact absurd rfl hne

/-- A foreign write that goes on finds the card deselected and has written its value (R31, R169). -/
theorem otherWrite_eq_next {ctrl : Ctrl} {b : Bool} {s t : State} (ht : otherWrite ctrl b s = .next t) :
    cardSelected ctrl = false ∧ t = drive b s := by
  cases hsel : cardSelected ctrl with
  | true =>
    rw [otherWrite, if_pos hsel] at ht
    cases ht
  | false =>
    rw [otherWrite_of_deselected b s hsel] at ht
    cases ht
    exact ⟨rfl, rfl⟩

theorem provide_miso (bytes : List Byte) (s : State) : (provide bytes s).miso = s.miso := by
  rcases provide_cases bytes s with ⟨-, h⟩ | ⟨-, h⟩ <;> rw [h]
  exact lendBuffer_miso bytes s

/-- Settles O51: of the operations only an edge, a foreign write and a reset write `miso`. -/
theorem misoWriters : Obligations.MisoWriters := by
  intro s t ht hne
  rcases step_eq_next ht with ⟨-, rfl⟩ | ⟨e, rest, hin, hp⟩
  · exact absurd rfl hne
  cases e with
  | edge ctrl =>
    obtain ⟨hsel, hs⟩ := receiving_eq_false_of_edge_miso hp hne
    have hnot := mt (receiving_iff s.state).2 (Bool.eq_false_iff.1 hs)
    simp only [not_or] at hnot
    exact .inl ⟨⟨ctrl, rest, hin, hsel⟩, hnot⟩
  | otherWrite ctrl b =>
    obtain ⟨hsel, rfl⟩ := otherWrite_eq_next hp
    exact .inr (.inl ⟨ctrl, rest, hin, hsel⟩)
  | reset => exact .inr (.inr ⟨rest, hin⟩)
  | provide bytes => cases hp; exact absurd (provide_miso bytes _) hne
  | poll | inUse | probe => cases hp; exact absurd rfl hne

end Sys2Proof.Machine
end

section
/-! A refused `Provide` (43_block_transfer.md R126), and what a reset establishes (10_state.md R35, 70_reset_and_hazards.md
R161, R162). -/

namespace Sys2Proof.Machine

/-- Settles O43: each misuse fails one of the three conditions of an accepted `Provide`. -/
theorem provideMisuseIsRefused : Obligations.ProvideMisuseIsRefused := by
  intro s bytes rest hin hmisuse
  refine step_provide_of_refused hin ?_
  rintro ⟨hlen, hp, hu⟩
  rcases hmisuse with hlen' | hp' | hu'
  · exact hlen' hlen
  · simp [hp] at hp'
  · simp [hu] at hu'

/-- Settles O44: the step of `Reset()` is `resetBlock`, whose buffer field is empty. -/
theorem resetEstablishesIdle : Obligations.ResetEstablishesIdle := fun s rest hin =>
  ⟨resetBlock { s with inputs := rest }, step_cons s .reset rest hin, rfl, rfl, rfl, rfl, rfl, rfl, rfl, fun _ => rfl⟩

/-- The reset state is the block after a reset, whose number is 0 (R35, R162). -/
theorem resetBlock_eq_reset : resetBlock { State.reset with draws := 0 } = State.reset := rfl

/-- Settles O52: Idle is a state before a dispatch and receives no frame, and the invariants hold after any reset. -/
theorem resetState : Obligations.ResetState := by
  have hinv : Inv State.reset := resetBlock_eq_reset ▸ inv_resetBlock _
  have hcrc : CrcInv State.reset := crcInv_of_beforeDispatch rfl
  have hhigh : receptionHigh State.reset := (receptionHigh_iff _).2 nofun
  exact ⟨rfl, rfl, rfl, rfl, rfl, rfl, rfl, hinv.buf_wf, hinv, hcrc, hhigh⟩

end Sys2Proof.Machine
end
